-- ==== Sys2Proof/Word.lean ====
section
/-! DEFINITION. The byte and word types of the link and the store, and the plainest arithmetic over them. -/

namespace Sys2Proof

/-- A byte of a link frame or a stored block (Tables 89, 90). -/
abbrev Byte := BitVec 8

/-- A CRC-16 register (R173). -/
abbrev Crc16 := BitVec 16

/-- A raw reading of the 12-bit converter, 0 to 4 095 (Section 1.1). -/
abbrev Raw := BitVec 12

/-- `n` brought to the nearest bound of `lo` to `hi` (Section 0.6.3). -/
def clampInt (lo hi n : Int) : Int := if n < lo then lo else if hi < n then hi else n

/-- `n` brought down to at most `hi` (Section 0.6.3). -/
def clampNat (lo hi n : Nat) : Nat := if n < lo then lo else if hi < n then hi else n

/-- `n + 1`, saturating at `top`. -/
def satSucc (top n : Nat) : Nat := if n < top then n + 1 else top

/-- `n / d` rounded up ("ceil", Section 0.6.2). -/
def ceilDiv (n d : Nat) : Nat := (n + (d - 1)) / d

/-- The newest entry `x` entered into a ring of at most `cap` entries, oldest first: it replaces the oldest one
when the ring is full. -/
def pushRing {α : Type} (cap : Nat) (r : List α) (x : α) : List α :=
  if r.length < cap then r ++ [x] else r.drop (r.length + 1 - cap) ++ [x]

/-- The truncated mean of a ring of unsigned entries, 0 when it is empty. -/
def meanNat (r : List Nat) : Nat := r.sum / r.length

/-- The mean of a ring of signed entries, truncated toward zero, 0 when it is empty. -/
def meanInt (r : List Int) : Int := r.sum.tdiv r.length

end Sys2Proof
end

