-- ==== Sys2Proof/Syntax.lean ====
section
/-! DEFINITION. The names of the part (consumers, sensors, inputs, request kinds) and `Instr`, the commands: one
constructor per row of spec/opcode_table.json. -/

namespace Sys2Proof

/-- The seven consumers in the order of their numbers 0 to 6 (Table 18). -/
inductive Consumer where
  | fan | glow | pump | compressor | bunkLower | bunkUpper | chime
  deriving DecidableEq, Repr

/-- The three light consumers, numbers 4 to 6 (Section 5.1). -/
inductive Light where
  | lower | upper | chime
  deriving DecidableEq, Repr

/-- The three external temperature sensors, numbers 0 to 2 (R7). -/
inductive Sensor where
  | tsc | tsx | tsf
  deriving DecidableEq, Repr

/-- The five bunk panel keys (Table 3). -/
inductive Key where
  | key0 | key1 | key2 | key3 | key4
  deriving DecidableEq, Repr

/-- The debounced discrete inputs (Table 12). -/
inductive Input where
  | ign | lid | key (k : Key)
  deriving DecidableEq, Repr

/-- The two fault classes with a stretch (Table 99). -/
inductive Stretch where
  | supply | thermal
  deriving DecidableEq, Repr

/-- The two drive limits that repeat (R113). -/
inductive Limit where
  | continuous | daily
  deriving DecidableEq, Repr

/-- One value for each of the eight channels CH0 to CH7. -/
structure PerChannel (α : Type) where
  ch0 : α
  ch1 : α
  ch2 : α
  ch3 : α
  ch4 : α
  ch5 : α
  ch6 : α
  ch7 : α
  deriving DecidableEq, Repr

/-- One value for each of the five keys. -/
structure PerKey (α : Type) where
  key0 : α
  key1 : α
  key2 : α
  key3 : α
  key4 : α
  deriving DecidableEq, Repr

/-- What the converter and the pins give one sample set: the members of Table 7, raw. Levels are logic levels as
sampled (true = high). `expiryFirst` is the order that R43 leaves open: whether the expiry of the ignition window, if
it falls on this set, is taken before the flame test (log 17). -/
structure RawSet where
  vbat : Raw
  current : PerChannel Raw
  tsc : Raw
  tsx : Raw
  tsf : Raw
  die : Raw
  ign : Bool
  lid : Bool
  keys : PerKey Bool
  expiryFirst : Bool
  deriving DecidableEq, Repr

/-- The request kinds of Table 93. -/
inductive Request where
  | status | readMeasurements | takeNotices | reinitialise | setVehicleState | setExternalDraw
  | setClock | readClock | setTimer | clearTimer | listTimers
  | heaterStart | heaterStop | heaterSet | heaterStatus | clearHeaterLockout
  | coolingSet | coolingStatus
  | setLight | loadProgram | cancelProgram | lightStatus
  | beginRest | extendRest | endRest | dutyStatus | readPeriods
  | reserveStatus | setAllowance | resetAccount
  | channelStatus | clearChannelFault
  | readSetting | writeSetting | commitBlock | checkStore | storeStatus | lockDutyRules
  deriving DecidableEq, Repr

/-- The commands. A request command carries the CTR and the payload bytes of a checked frame of its kind (log 6). -/
inductive Instr where
  /-- POWER_ON_RESET (R179). -/
  | powerOnReset
  /-- PIN_RESET (R179). -/
  | pinReset
  /-- RESET_RELEASE (R179): the levels of the straps LINKSEL and DEFSEL, true = high. -/
  | resetRelease (linksel defsel : Bool)
  /-- BLOCK_LOAD_DONE (R179): the next block in block number order. -/
  | blockLoadDone
  /-- SETTLING_END (R179). -/
  | settlingEnd
  /-- SAMPLE_SET (R1). -/
  | sampleSet (raw : RawSet)
  /-- SENSOR_FAULT (R7). -/
  | sensorFault (sensor : Sensor)
  /-- SENSOR_OK (R7). -/
  | sensorOk (sensor : Sensor)
  /-- DEBOUNCE_CHANGE (R9). -/
  | debounceChange (input : Input)
  /-- KEY_LONG_PRESS (R11). -/
  | keyLongPress (key : Key)
  /-- KEY_REPEAT (R12). -/
  | keyRepeat (key : Key)
  /-- PUMP_FAST_READING (R22): the raw PUMP current reading. -/
  | pumpFastReading (raw : Raw)
  /-- RETRY_EXPIRY (R27). -/
  | retryExpiry (consumer : Consumer)
  /-- TRIP_WINDOW_CLOSE (R28). -/
  | tripWindowClose (consumer : Consumer)
  /-- HIT_PHASE_END (R22). -/
  | hitPhaseEnd
  /-- HOLD_PHASE_END (R21). -/
  | holdPhaseEnd
  /-- OPEN_LOAD_SET (R29). -/
  | openLoadSet (consumer : Consumer)
  /-- OPEN_LOAD_CLEAR (R29). -/
  | openLoadClear (consumer : Consumer)
  /-- CHECK_END (R41). -/
  | checkEnd
  /-- GLOW_END (R42). -/
  | glowEnd
  /-- PRIME_END (R42). -/
  | primeEnd
  /-- IGNITION_WINDOW_EXPIRY (R43). -/
  | ignitionWindowExpiry
  /-- STROKE_DUE (R44). -/
  | strokeDue
  /-- PEFF_RAMP_END (R45). -/
  | peffRampEnd
  /-- STABILISE_GLOW_OFF (R46). -/
  | stabiliseGlowOff
  /-- STABILISE_END (R46). -/
  | stabiliseEnd
  /-- RUN_TEN_MINUTES (R47). -/
  | runTenMinutes
  /-- IDLE_OFF (R49). -/
  | idleOff
  /-- RESTART_WAIT_EXPIRY (R49). -/
  | restartWaitExpiry
  /-- RUN_TIMER_EXPIRY (R51). -/
  | runTimerExpiry
  /-- PURGE_BURN_OFF_END (R38). -/
  | purgeBurnOffEnd
  /-- PURGE_MAXIMUM (R53). -/
  | purgeMaximum
  /-- HOLD_TIME_LIMIT (R58). -/
  | holdTimeLimit
  /-- MIN_OFF_END (R70). -/
  | minOffEnd
  /-- CUT_IN (R70). -/
  | cutIn
  /-- START_CHECK_FAIL (R73). -/
  | startCheckFail
  /-- RUNNING_SIXTY_SECONDS (R73). -/
  | runningSixtySeconds
  /-- SPEED_STEP_CHOICE (R72). -/
  | speedStepChoice
  /-- LID_OPEN_120 (R75). -/
  | lidOpen120
  /-- FALLBACK_ON_END (R79). -/
  | fallbackOnEnd
  /-- LIGHT_RAMP_END (R85). -/
  | lightRampEnd (light : Light)
  /-- PROGRAM_STEP_END (R90). -/
  | programStepEnd (light : Light)
  /-- ALERT_PART_END (R95). -/
  | alertPartEnd (light : Light)
  /-- WAKE_CHIME_TIMER_EXPIRY (R96). -/
  | wakeChimeTimerExpiry
  /-- TIMER_SECOND (R124). -/
  | timerSecond
  /-- TIMER_ENTRY_FIRE (R133): the first entry in table order that the check of the last timer second found due. -/
  | timerEntryFire
  /-- VEHICLE_HOLD_EXPIRY (R105). -/
  | vehicleHoldExpiry
  /-- VEHICLE_STALE (R106). -/
  | vehicleStale
  /-- LIMIT_REPEAT (R113). -/
  | limitRepeat (limit : Limit)
  /-- CHARGE_STATE_CHANGE (R137). -/
  | chargeStateChange
  /-- RESTORE_STEP (R146). -/
  | restoreStep
  /-- LOW_PACE_STEP (R150). -/
  | lowPaceStep
  /-- BAND_CHANGE (R149). The two orders that R78 and R99 leave open: whether the cooling controller and the light
  unit hear of the band before the ladder steps, and whether the light unit takes the CUTOFF alert request before the
  setting of the cutoff hold (log 17). -/
  | bandChange (bandFirst alertFirst : Bool)
  /-- STRETCH_EXPIRY (R169). -/
  | stretchExpiry (cls : Stretch)
  /-- LINK_TIMER_EXPIRY (R169). -/
  | linkTimerExpiry
  /-- RECEIVE_CHARACTER (R158): the eight data bits and whether the stop bit was high. -/
  | receiveCharacter (byte : Byte) (stopHigh : Bool)
  /-- LINK_GAP_TIMEOUT (R158). -/
  | linkGapTimeout
  /-- FRAME_SENT (R159). -/
  | frameSent
  /-- UNKNOWN_KIND (R161): a checked frame whose KIND is not in Table 93. -/
  | unknownKind (ctr kind : Byte) (payload : List Byte)
  /-- STATUS (R165). -/
  | status (ctr : Byte) (payload : List Byte)
  /-- READ_MEASUREMENTS (R14). -/
  | readMeasurements (ctr : Byte) (payload : List Byte)
  /-- TAKE_NOTICES (R168). -/
  | takeNotices (ctr : Byte) (payload : List Byte)
  /-- REINITIALISE (R180). -/
  | reinitialise (ctr : Byte) (payload : List Byte)
  /-- SET_VEHICLE_STATE (R105). -/
  | setVehicleState (ctr : Byte) (payload : List Byte)
  /-- SET_EXTERNAL_DRAW (R140). -/
  | setExternalDraw (ctr : Byte) (payload : List Byte)
  /-- SET_CLOCK (R126). -/
  | setClock (ctr : Byte) (payload : List Byte)
  /-- READ_CLOCK (R127). -/
  | readClock (ctr : Byte) (payload : List Byte)
  /-- SET_TIMER (R130). -/
  | setTimer (ctr : Byte) (payload : List Byte)
  /-- CLEAR_TIMER (R131). -/
  | clearTimer (ctr : Byte) (payload : List Byte)
  /-- LIST_TIMERS (R132). -/
  | listTimers (ctr : Byte) (payload : List Byte)
  /-- HEATER_START (R39). -/
  | heaterStart (ctr : Byte) (payload : List Byte)
  /-- HEATER_STOP (R51). -/
  | heaterStop (ctr : Byte) (payload : List Byte)
  /-- HEATER_SET (R50). -/
  | heaterSet (ctr : Byte) (payload : List Byte)
  /-- HEATER_STATUS (R63). -/
  | heaterStatus (ctr : Byte) (payload : List Byte)
  /-- CLEAR_HEATER_LOCKOUT (R62). -/
  | clearHeaterLockout (ctr : Byte) (payload : List Byte)
  /-- COOLING_SET (R69). -/
  | coolingSet (ctr : Byte) (payload : List Byte)
  /-- COOLING_STATUS (R81). -/
  | coolingStatus (ctr : Byte) (payload : List Byte)
  /-- SET_LIGHT (R86). -/
  | setLight (ctr : Byte) (payload : List Byte)
  /-- LOAD_PROGRAM (R88). -/
  | loadProgram (ctr : Byte) (payload : List Byte)
  /-- CANCEL_PROGRAM (R92). -/
  | cancelProgram (ctr : Byte) (payload : List Byte)
  /-- LIGHT_STATUS (R101). -/
  | lightStatus (ctr : Byte) (payload : List Byte)
  /-- BEGIN_REST (R114). -/
  | beginRest (ctr : Byte) (payload : List Byte)
  /-- EXTEND_REST (R117). -/
  | extendRest (ctr : Byte) (payload : List Byte)
  /-- END_REST (R118). -/
  | endRest (ctr : Byte) (payload : List Byte)
  /-- DUTY_STATUS (R122). -/
  | dutyStatus (ctr : Byte) (payload : List Byte)
  /-- READ_PERIODS (R108). -/
  | readPeriods (ctr : Byte) (payload : List Byte)
  /-- RESERVE_STATUS (R153). -/
  | reserveStatus (ctr : Byte) (payload : List Byte)
  /-- SET_ALLOWANCE (R139). -/
  | setAllowance (ctr : Byte) (payload : List Byte)
  /-- RESET_ACCOUNT (R138). -/
  | resetAccount (ctr : Byte) (payload : List Byte)
  /-- CHANNEL_STATUS (R33). -/
  | channelStatus (ctr : Byte) (payload : List Byte)
  /-- CLEAR_CHANNEL_FAULT (R35). -/
  | clearChannelFault (ctr : Byte) (payload : List Byte)
  /-- READ_SETTING (R174). -/
  | readSetting (ctr : Byte) (payload : List Byte)
  /-- WRITE_SETTING (R174). -/
  | writeSetting (ctr : Byte) (payload : List Byte)
  /-- COMMIT_BLOCK (R175). -/
  | commitBlock (ctr : Byte) (payload : List Byte)
  /-- CHECK_STORE (R177). -/
  | checkStore (ctr : Byte) (payload : List Byte)
  /-- STORE_STATUS (R178). -/
  | storeStatus (ctr : Byte) (payload : List Byte)
  /-- LOCK_DUTY_RULES (R121). -/
  | lockDutyRules (ctr : Byte) (payload : List Byte)
  /-- STORE_WRITE_DONE (R175). -/
  | storeWriteDone
  /-- STORE_READBACK_DONE (R175): whether the read-back compare matched. -/
  | storeReadbackDone (matched : Bool)
  /-- STORE_CHECK_DONE (R177). The order R177 leaves open: whether the check read block 3 before a mark that a part
  write put on it during the check (log 17). -/
  | storeCheckDone (block3First : Bool)
  /-- REJECT_SENT (R161). -/
  | rejectSent
  deriving DecidableEq, Repr

end Sys2Proof
end

