-- ==== Sys2Proof/Decode.lean ====
section
/-! DEFINITION. `decodeTableWord`: spec/opcode_table.json gives bits to none of its rows (every row's list of fields is
empty), so no word spells a command. -/

namespace Sys2Proof

/-- The command that a word of the table spells: none, since no row has bits. -/
def decodeTableWord (_nbits _w : Nat) : Option Instr := none

end Sys2Proof
end

