-- ==== Sys2Proof/Config.lean ====
section
/-! DEFINITION. The free values: what the spec leaves without a value. Nothing in Lean can evaluate them. -/

namespace Sys2Proof.Config

/-- FREE VALUE (log 9). What a reply or notice field of `bytes` bytes carries for a value `v` that does not fit it,
as a number of which the low `8 × bytes` bits are sent. The spec states no result there. The first argument is the
state's counter `free`, so that no two commands need carry the same value. -/
opaque overflowField : Nat → Nat → Int → Nat

/-- FREE VALUE (log 10). A byte "not used" of a LIST TIMERS entry (R132: "as in SET TIMER"): the counter `free`, the
entry's id and the byte's place in the entry. -/
opaque unusedByte : Nat → Nat → Nat → Byte

end Sys2Proof.Config
end

