-- ==== Sys2Proof/Machine/Settings.lean ====
section
/-! DEFINITION. The ten settings blocks: their fields, ranges, defaults, ordering rules and stored layout (R15, R36,
R64, R65, R82, R102, R120, R136, R144, R154, R171, R173, R174). -/

namespace Sys2Proof.Machine

/-! ### Consumers by number -/

/-- The consumer numbers of Table 18. -/
def consumerNumber : Consumer → Nat
  | .fan => 0 | .glow => 1 | .pump => 2 | .compressor => 3 | .bunkLower => 4 | .bunkUpper => 5 | .chime => 6

/-- The consumer of a number of Table 18. -/
def consumerOf : Nat → Option Consumer
  | 0 => some .fan | 1 => some .glow | 2 => some .pump | 3 => some .compressor
  | 4 => some .bunkLower | 5 => some .bunkUpper | 6 => some .chime | _ => none

/-- The seven consumers in number order. -/
def allConsumers : List Consumer := [.fan, .glow, .pump, .compressor, .bunkLower, .bunkUpper, .chime]

/-- The consumer of a light. -/
def lightConsumer : Light → Consumer
  | .lower => .bunkLower | .upper => .bunkUpper | .chime => .chime

/-- The light of a consumer number 4 to 6 (R86). -/
def lightOf : Nat → Option Light
  | 4 => some .lower | 5 => some .upper | 6 => some .chime | _ => none

/-! ### Timer actions and weekly entries -/

/-- The alert patterns of Table 57. -/
inductive Pattern where
  | wake | drivePrewarn | dailyPrewarn | driveLimit | dailyLimit | restShort | reserveStep | heaterLockout | cutoff
  deriving DecidableEq, Repr

/-- The pattern numbers of Table 57. -/
def patternNumber : Pattern → Nat
  | .wake => 1 | .drivePrewarn => 2 | .dailyPrewarn => 3 | .driveLimit => 4 | .dailyLimit => 5
  | .restShort => 6 | .reserveStep => 7 | .heaterLockout => 8 | .cutoff => 9

/-- The pattern of a number of Table 57. -/
def patternOf : Nat → Option Pattern
  | 1 => some .wake | 2 => some .drivePrewarn | 3 => some .dailyPrewarn | 4 => some .driveLimit
  | 5 => some .dailyLimit | 6 => some .restShort | 7 => some .reserveStep | 8 => some .heaterLockout
  | 9 => some .cutoff | _ => none

/-- The actions of a timer entry (Table 75, Table 76). -/
inductive Action where
  | heaterStart (target : Int) (runMinutes : Nat)
  | heaterStop
  | coolingOn
  | coolingOff
  | lightLevel (light : Light) (level ramp : Nat)
  | alert (pattern : Pattern)
  | wake
  | prewarm
  | restEnd
  deriving DecidableEq, Repr

/-- A WEEKLY entry as block 9 stores it (R136). -/
structure Weekly where
  id : Nat
  minute : Nat
  mask : Nat
  action : Action
  deriving DecidableEq, Repr

/-! ### The ladder -/

/-- The consumers a ladder step may name (R144). -/
inductive LadderConsumer where
  | compressor | bunkLower | bunkUpper | heater
  deriving DecidableEq, Repr

/-- A ladder step's action (R144). -/
inductive LadderAction where
  | degrade | shed
  deriving DecidableEq, Repr

/-- A step of the shed ladder (R144). -/
structure LadderStep where
  consumer : LadderConsumer
  action : LadderAction
  deriving DecidableEq, Repr

/-- The ladder consumer codes of R144. -/
def ladderCode : LadderConsumer → Nat
  | .compressor => 3 | .bunkLower => 4 | .bunkUpper => 5 | .heater => 7

/-- The ladder consumer of a code of R144. -/
def ladderConsumerOf : Nat → Option LadderConsumer
  | 3 => some .compressor | 4 => some .bunkLower | 5 => some .bunkUpper | 7 => some .heater | _ => none

/-- The action codes of R144. -/
def ladderActionCode : LadderAction → Nat
  | .degrade => 0 | .shed => 1

/-- The action of a code of R144. -/
def ladderActionOf : Nat → Option LadderAction
  | 0 => some .degrade | 1 => some .shed | _ => none

/-- The default ladder of Table 82. -/
def defaultLadder : List LadderStep :=
  [⟨.bunkUpper, .shed⟩, ⟨.bunkLower, .degrade⟩, ⟨.compressor, .degrade⟩, ⟨.heater, .degrade⟩,
   ⟨.compressor, .shed⟩, ⟨.bunkLower, .shed⟩, ⟨.heater, .shed⟩]

/-- R144's order rule: no consumer and action pair twice, and no SHED step before the same consumer's DEGRADE step. -/
def ladderOrdered : List LadderStep → Bool
  | [] => true
  | st :: rest =>
    !rest.contains st && !(st.action == .shed && rest.contains ⟨st.consumer, .degrade⟩) && ladderOrdered rest

/-! ### The channel map -/

/-- A channel number. -/
abbrev Channel := Fin 8

/-- The default map of Table 18. -/
def defaultMap : List (Option Consumer) :=
  [some .glow, some .glow, some .fan, some .pump, some .compressor, some .bunkLower, some .bunkUpper, some .chime]

/-- The channels that hold `c` in a map, in channel order, from channel `i` on. -/
def channelsOf (c : Consumer) : List (Option Consumer) → Nat → List Channel
  | [], _ => []
  | e :: rest, i => if e = some c then Fin.ofNat 8 i :: channelsOf c rest (i + 1) else channelsOf c rest (i + 1)

/-- The two channels are the two halves of one pair (R15). -/
def isPair (a b : Channel) : Bool := a.val / 2 == b.val / 2 && a.val % 2 == 0 && b.val == a.val + 1

/-- R15's rules for one consumer: in at most one entry, or, for GLOW and COMPRESSOR, in the two of one pair. -/
def mapEntryOk (m : List (Option Consumer)) (c : Consumer) : Bool :=
  match channelsOf c m 0 with
  | [] => true
  | [_] => true
  | [a, b] => isPair a b && (c == .glow || c == .compressor)
  | _ => false

/-- R15: the map breaks no rule. -/
def mapOrdered (m : List (Option Consumer)) : Bool :=
  allConsumers.all (mapEntryOk m) &&
    ((m.contains (some .fan) && m.contains (some .glow) && m.contains (some .pump)) ||
      (!m.contains (some .fan) && !m.contains (some .glow) && !m.contains (some .pump)))

/-! ### Blocks and their data -/

/-- The ten settings blocks (Table 103). -/
inductive Block where
  | chanMap | output | heater | heaterState | cooling | lights | dutyRules | reserve | signals | timers
  deriving DecidableEq, Repr

/-- The block numbers of Table 103. -/
def blockNumber : Block → Nat
  | .chanMap => 0 | .output => 1 | .heater => 2 | .heaterState => 3 | .cooling => 4
  | .lights => 5 | .dutyRules => 6 | .reserve => 7 | .signals => 8 | .timers => 9

/-- The block of a number of Table 103. -/
def blockOf : Nat → Option Block
  | 0 => some .chanMap | 1 => some .output | 2 => some .heater | 3 => some .heaterState | 4 => some .cooling
  | 5 => some .lights | 6 => some .dutyRules | 7 => some .reserve | 8 => some .signals | 9 => some .timers
  | _ => none

/-- The ten blocks in number order. -/
def allBlocks : List Block :=
  [.chanMap, .output, .heater, .heaterState, .cooling, .lights, .dutyRules, .reserve, .signals, .timers]

/-- The fields of a block: its numeric fields by field number, and the three fields that are no number: the map
(block 0), the ladder (block 7, field 3, whose numeric place holds 0) and the weekly entries (block 9). -/
structure BlockData where
  nums : List Int
  chanMap : List (Option Consumer)
  ladder : List LadderStep
  weekly : List Weekly
  deriving DecidableEq, Repr

/-- What a field accepts (Section 0.6.3). -/
inductive FieldSpec where
  /-- A range, clamped. -/
  | range (lo hi dflt : Int)
  /-- A range in steps of 100 mV: clamped, and brought down to its step (R154). -/
  | stepped (lo hi dflt : Int)
  /-- Run minutes: 0, or 10 to 720, so 1 to 9 become 10 (R64). -/
  | minutes (dflt : Int)
  /-- An enumerated set: any other value is refused. -/
  | choice (set : List Int) (dflt : Int)
  /-- A field that the part alone writes (block 3). -/
  | ownOnly (dflt : Int)
  /-- The place of a field that is no number (the map, the ladder, the weekly entries). -/
  | notNumeric
  deriving DecidableEq, Repr

/-- A field's default. -/
def FieldSpec.default : FieldSpec → Int
  | .range _ _ d => d | .stepped _ _ d => d | .minutes d => d | .choice _ d => d | .ownOnly d => d | .notNumeric => 0

/-- The fields of the OUTPUT block in number order (Table 28). The open threshold of PUMP (field 17) is not used and
the table gives it no default: 5, DESIGN CHOICE (log 14). The master frequency is written in kHz, DEDUCED (log 13). -/
def outputFields : List FieldSpec :=
  [.choice [25, 20, 10, 5, 2, 1] 20] ++
  [.choice [1, 2, 4, 8] 1, .choice [1, 2, 4, 8] 1, .choice [1, 2, 4, 8] 1, .choice [1, 2, 4, 8] 1,
   .choice [1, 2, 4, 8] 8, .choice [1, 2, 4, 8] 8, .choice [1, 2, 4, 8] 1] ++
  [.range 1 1000 10, .range 1 1000 1000, .range 1 1000 1000, .range 1 1000 20, .range 1 1000 1000,
   .range 1 1000 1000, .range 1 1000 1000] ++
  [.range 5 1000 150, .range 5 1000 500, .range 5 1000 5, .range 5 1000 100, .range 5 1000 20,
   .range 5 1000 20, .range 5 1000 5] ++
  [.range 5 60 25, .range 10 100 35, .range 6000 24000 12000, .range 100 2000 300, .range 10 500 40]

/-- The fields of the HEATER block in number order (Table 42). -/
def heaterFields : List FieldSpec :=
  [.range 500 4000 850, .range 500 4000 1250, .range 500 4000 1650, .range 500 4000 2000, .range 500 4000 1650,
   .range 9000 11000 9800, .range 5000 60000 22000] ++
  [.range 200 1000 450, .range 200 1000 600, .range 200 1000 750, .range 200 1000 900, .range 200 1000 350,
   .range 200 1000 900, .range 8000 24000 18000, .range 20 90 45, .range 500 10000 1500, .range 500 10000 6000] ++
  [.range 20000 28000 22500, .range 20 300 80, .range 30 240 90, .range 1500 2300 2000, .range 60 600 120,
   .range 120 900 360, .range 300 1000 600, .minutes 120, .range 50 300 210]

/-- The fields of the HEATER STATE block in number order (R65): flag, cause, count, starts, restarted. The cause
"none" is −1, all ones in the field's bytes, DEDUCED (log 12). -/
def heaterStateFields : List FieldSpec := [.ownOnly 0, .ownOnly (-1), .ownOnly 0, .ownOnly 0, .ownOnly 0]

/-- The fields of the COOLING block in number order (Table 49). -/
def coolingFields : List FieldSpec :=
  [.choice [0, 1] 1, .range (-180) 100 40, .range 5 50 20, .range 100 1000 300, .range 100 1000 600,
   .range 100 1000 1000, .range 0 100 30, .range 5 30 10, .range 5 30 10]

/-- The fields of the LIGHTS block in number order (Table 61). -/
def lightsFields : List FieldSpec := [.choice [0, 1] 1, .choice [0, 1] 1, .range 1 100 60, .range 1 100 60]

/-- The fields of the DUTY RULES block in number order (Table 72). -/
def dutyFields : List FieldSpec :=
  [.range 60 600 270, .range 1 60 15, .range 120 900 540, .range 1 120 30, .range 10 180 45, .range 5 60 15,
   .range 10 120 30, .range 240 1440 660, .range 1 60 10, .range 15 720 540, .range 0 60 15]

/-- The fields of the RESERVE block in number order (Table 86). -/
def reserveFields : List FieldSpec :=
  [.range 5000 400000 60000, .range 0 600 60, .range 0 50000 3000, .notNumeric, .stepped 20000 26000 23000,
   .stepped 20000 26000 24000, .stepped 20000 26000 22000, .stepped 20000 26000 23500, .stepped 20000 26000 21000,
   .stepped 20000 26000 23500]

/-- The fields of the SIGNALS block in number order (Table 101). -/
def signalsFields : List FieldSpec :=
  [.choice [0, 1] 0, .choice [0, 1] 0, .choice [0, 1] 0, .choice [0, 1] 0, .choice [0, 1] 0, .choice [0, 1] 0,
   .choice [0, 1] 0, .range 0 3 1, .range 0 3 1, .choice [0, 1, 2, 3, 4, 5] 0, .range 1 32 8, .choice [0, 1] 0]

/-- The fields of a block in number order (R174). -/
def fieldSpecs : Block → List FieldSpec
  | .chanMap => [.notNumeric] | .output => outputFields | .heater => heaterFields
  | .heaterState => heaterStateFields | .cooling => coolingFields | .lights => lightsFields
  | .dutyRules => dutyFields | .reserve => reserveFields | .signals => signalsFields | .timers => [.notNumeric]

/-- A block's defaults (R179). -/
def blockDefaults (b : Block) : BlockData where
  nums := (fieldSpecs b).map FieldSpec.default
  chanMap := if b = .chanMap then defaultMap else []
  ladder := if b = .reserve then defaultLadder else []
  weekly := []

/-- The defaults of block 3 after a bad check: the lockout flag set with cause STORE (R65). -/
def heaterStateBad : BlockData := ⟨[1, 10, 0, 0, 0], [], [], []⟩

/-! ### One value per block -/

/-- One value for each of the ten blocks. -/
structure PerBlock (α : Type) where
  chanMap : α
  output : α
  heater : α
  heaterState : α
  cooling : α
  lights : α
  dutyRules : α
  reserve : α
  signals : α
  timers : α
  deriving DecidableEq, Repr

def PerBlock.get {α : Type} (p : PerBlock α) : Block → α
  | .chanMap => p.chanMap | .output => p.output | .heater => p.heater | .heaterState => p.heaterState
  | .cooling => p.cooling | .lights => p.lights | .dutyRules => p.dutyRules | .reserve => p.reserve
  | .signals => p.signals | .timers => p.timers

def PerBlock.set {α : Type} (p : PerBlock α) (b : Block) (v : α) : PerBlock α :=
  match b with
  | .chanMap => { p with chanMap := v } | .output => { p with output := v } | .heater => { p with heater := v }
  | .heaterState => { p with heaterState := v } | .cooling => { p with cooling := v }
  | .lights => { p with lights := v } | .dutyRules => { p with dutyRules := v }
  | .reserve => { p with reserve := v } | .signals => { p with signals := v } | .timers => { p with timers := v }

def PerBlock.ofFun {α : Type} (f : Block → α) : PerBlock α where
  chanMap := f .chanMap
  output := f .output
  heater := f .heater
  heaterState := f .heaterState
  cooling := f .cooling
  lights := f .lights
  dutyRules := f .dutyRules
  reserve := f .reserve
  signals := f .signals
  timers := f .timers

/-! ### Reading the working copy -/

/-- The working copy of the ten blocks (Section 11.1). -/
abbrev Working := PerBlock BlockData

/-- Numeric field `i` of block `b`. -/
def Working.num (w : Working) (b : Block) (i : Nat) : Int := ((w.get b).nums[i]?).getD 0

/-- Numeric field `i` of block `b` where its range has no negative value. -/
def Working.nat (w : Working) (b : Block) (i : Nat) : Nat := (w.num b i).toNat

namespace Working

def masterFreq (w : Working) : Nat := w.nat .output 0
def divider (w : Working) (c : Consumer) : Nat := w.nat .output (1 + consumerNumber c)
def slewLimit (w : Working) (c : Consumer) : Nat := w.nat .output (8 + consumerNumber c)
def openThreshold (w : Working) (c : Consumer) : Nat := w.nat .output (15 + consumerNumber c)
def tHit (w : Working) : Nat := w.nat .output 22
def tHold (w : Working) : Nat := w.nat .output 23
def vHold (w : Working) : Nat := w.nat .output 24
def startCurrent (w : Working) : Nat := w.nat .output 25
def dip (w : Working) : Nat := w.nat .output 26

/-- The stage power P1 to P4. -/
def stagePower (w : Working) (stage : Nat) : Nat := w.nat .heater (stage - 1)
def startPower (w : Working) : Nat := w.nat .heater 4
def fuelEnergy (w : Working) : Nat := w.nat .heater 5
def strokeVolume (w : Working) : Nat := w.nat .heater 6
/-- The stage fan duty F1 to F4. -/
def stageFanDuty (w : Working) (stage : Nat) : Nat := w.nat .heater (6 + stage)
def startFanDuty (w : Working) : Nat := w.nat .heater 11
def purgeFanDuty (w : Working) : Nat := w.nat .heater 12
def glowTarget (w : Working) : Nat := w.nat .heater 13
def glowTime (w : Working) : Nat := w.nat .heater 14
def glowMin (w : Working) : Nat := w.nat .heater 15
def glowMax (w : Working) : Nat := w.nat .heater 16
def startSupply (w : Working) : Nat := w.nat .heater 17
def ignitionRise (w : Working) : Int := w.num .heater 18
def ignitionWindow (w : Working) : Nat := w.nat .heater 19
def overheatLimit (w : Working) : Int := w.num .heater 20
def purgeMin (w : Working) : Nat := w.nat .heater 21
def purgeMax (w : Working) : Nat := w.nat .heater 22
def purgeCool (w : Working) : Int := w.num .heater 23
def defaultRun (w : Working) : Nat := w.nat .heater 24
def defaultTarget (w : Working) : Int := w.num .heater 25

def coolingEnabled (w : Working) : Bool := w.num .cooling 0 == 1
def coolingSetpoint (w : Working) : Int := w.num .cooling 1
def hysteresis (w : Working) : Int := w.num .cooling 2
def speedLow (w : Working) : Nat := w.nat .cooling 3
def speedMid (w : Working) : Nat := w.nat .cooling 4
def speedHigh (w : Working) : Nat := w.nat .cooling 5
def ecoOffset (w : Working) : Int := w.num .cooling 6
def fallbackOn (w : Working) : Nat := w.nat .cooling 7
def fallbackOff (w : Working) : Nat := w.nat .cooling 8

def infoEnabled (w : Working) : Bool := w.num .lights 0 == 1
def warningEnabled (w : Working) : Bool := w.num .lights 1 == 1
def onLevelLower (w : Working) : Nat := w.nat .lights 2
def onLevelUpper (w : Working) : Nat := w.nat .lights 3

def limitCd (w : Working) : Nat := w.nat .dutyRules 0
def warnCd (w : Working) : Nat := w.nat .dutyRules 1
def limitDd (w : Working) : Nat := w.nat .dutyRules 2
def warnDd (w : Working) : Nat := w.nat .dutyRules 3
def breakFull (w : Working) : Nat := w.nat .dutyRules 4
def breakFirst (w : Working) : Nat := w.nat .dutyRules 5
def breakSecond (w : Working) : Nat := w.nat .dutyRules 6
def dailyRest (w : Working) : Nat := w.nat .dutyRules 7
def limitRepeat (w : Working) : Nat := w.nat .dutyRules 8
def key4Length (w : Working) : Nat := w.nat .dutyRules 9
def key4Wake (w : Working) : Nat := w.nat .dutyRules 10

def allowance (w : Working) : Nat := w.nat .reserve 0
def idleHorizon (w : Working) : Nat := w.nat .reserve 1
def startReserve (w : Working) : Nat := w.nat .reserve 2
def lowEnter (w : Working) : Nat := w.nat .reserve 4
def lowLeave (w : Working) : Nat := w.nat .reserve 5
def criticalEnter (w : Working) : Nat := w.nat .reserve 6
def criticalLeave (w : Working) : Nat := w.nat .reserve 7
def cutoffEnter (w : Working) : Nat := w.nat .reserve 8
def cutoffLeave (w : Working) : Nat := w.nat .reserve 9

/-- Mask of the class at place `i` of Table 99. -/
def mask (w : Working) (i : Nat) : Bool := w.num .signals i == 1
def supplyStretch (w : Working) : Nat := w.nat .signals 7
def thermalStretch (w : Working) : Nat := w.nat .signals 8
def nstaFunction (w : Working) : Nat := w.nat .signals 9
def nstaThreshold (w : Working) : Nat := w.nat .signals 10
def nstaActiveHigh (w : Working) : Bool := w.num .signals 11 == 1

end Working

/-! ### Value checks (R36, R64, R82, R102, R120, R154, R171) -/

/-- The outcome of a value check. -/
inductive Checked where
  | accepted (v : Int) (clamped : Bool)
  | badField
  deriving DecidableEq, Repr

/-- A field's own check of a value: a clamp, a step, or membership. -/
def FieldSpec.check (f : FieldSpec) (v : Int) : Checked :=
  match f with
  | .range lo hi _ => .accepted (clampInt lo hi v) (clampInt lo hi v != v)
  | .stepped lo hi _ =>
    .accepted (clampInt lo hi v / 100 * 100) (clampInt lo hi v / 100 * 100 != v)
  | .minutes _ =>
    if v = 0 then .accepted 0 false
    else if v < 0 then .accepted 0 true
    else .accepted (clampInt 10 720 v) (clampInt 10 720 v != v)
  | .choice set _ => if set.contains v then .accepted v false else .badField
  | .ownOnly _ => .badField
  | .notNumeric => .badField

/-- Field `i` of a list of numeric fields. -/
def fieldAt (n : List Int) (i : Nat) : Int := (n[i]?).getD 0

/-- The ordering rules of a block over its fields as they would stand (R64, R82, R120, R154). -/
def blockOrdered (b : Block) (n : List Int) : Bool :=
  match b with
  | .heater =>
    decide (fieldAt n 0 < fieldAt n 1) && decide (fieldAt n 1 < fieldAt n 2) && decide (fieldAt n 2 < fieldAt n 3) &&
      decide (fieldAt n 15 < fieldAt n 16) && decide (fieldAt n 21 < fieldAt n 22)
  | .cooling => decide (fieldAt n 3 ≤ fieldAt n 4) && decide (fieldAt n 4 ≤ fieldAt n 5)
  | .dutyRules =>
    decide (fieldAt n 5 < fieldAt n 6) && decide (fieldAt n 6 < fieldAt n 4) && decide (fieldAt n 4 < fieldAt n 7) &&
      decide (fieldAt n 1 < fieldAt n 0) && decide (fieldAt n 3 < fieldAt n 2)
  | .reserve =>
    decide (fieldAt n 8 < fieldAt n 6) && decide (fieldAt n 6 < fieldAt n 4) &&
      decide (fieldAt n 4 + 300 ≤ fieldAt n 5) && decide (fieldAt n 6 + 300 ≤ fieldAt n 7) &&
      decide (fieldAt n 8 + 300 ≤ fieldAt n 9)
  | .chanMap => true | .output => true | .heaterState => true | .lights => true | .signals => true | .timers => true

/-! ### The stored layout and its CRC-16 (R173) -/

/-- `n` bytes, the least significant first (Section 0.6.4), of a number. -/
def natBytes : Nat → Nat → List Byte
  | 0, _ => []
  | n + 1, v => BitVec.ofNat 8 v :: natBytes n (v / 256)

/-- The four bytes of a numeric field, signed (R174). -/
def fieldBytes (v : Int) : List Byte := natBytes 4 (v % 4294967296).toNat

/-- The eight bytes of a map, 0xFF for NONE (R174). -/
def mapBytes (m : List (Option Consumer)) : List Byte :=
  m.map fun e => match e with | some c => BitVec.ofNat 8 (consumerNumber c) | none => 0xFF

/-- The 1 + 2 × n bytes of a ladder (R144, R174). -/
def ladderBytes (l : List LadderStep) : List Byte :=
  BitVec.ofNat 8 l.length ::
    l.flatMap fun st => [BitVec.ofNat 8 (ladderCode st.consumer), BitVec.ofNat 8 (ladderActionCode st.action)]

/-- The two bytes of a signed 16-bit quantity. -/
def signed16 (v : Int) : List Byte := natBytes 2 (v % 65536).toNat

/-- The action codes of R130 and R132. -/
def actionCode : Action → Nat
  | .heaterStart _ _ => 1 | .heaterStop => 2 | .coolingOn => 3 | .coolingOff => 4 | .lightLevel _ _ _ => 5
  | .alert _ => 6 | .wake => 7 | .prewarm => 8 | .restEnd => 9

/-- A weekly entry's bytes in the store: id, minute-of-day, day mask, action code, arguments (log 8). -/
def weeklyBytes (e : Weekly) : List Byte :=
  BitVec.ofNat 8 e.id :: natBytes 2 e.minute ++ [BitVec.ofNat 8 e.mask, BitVec.ofNat 8 (actionCode e.action)] ++
    match e.action with
    | .heaterStart t r => signed16 t ++ natBytes 2 r
    | .lightLevel l v r => [BitVec.ofNat 8 (consumerNumber (lightConsumer l)), BitVec.ofNat 8 v] ++ natBytes 2 r
    | .alert p => [BitVec.ofNat 8 (patternNumber p), 0, 0, 0]
    | _ => [0, 0, 0, 0]

/-- A block's stored bytes: the format byte and the fields in number order, each in its layout of R174. The spec does
not give the stored layout beyond this: DEDUCED (log 8). -/
def blockImage (format : Byte) (b : Block) (d : BlockData) : List Byte :=
  format ::
    match b with
    | .chanMap => mapBytes d.chanMap
    | .reserve => (d.nums.take 3).flatMap fieldBytes ++ ladderBytes d.ladder ++ (d.nums.drop 4).flatMap fieldBytes
    | .timers => d.weekly.flatMap weeklyBytes
    | _ => d.nums.flatMap fieldBytes

/-- One bit time of the CRC-16 register, polynomial 0x1021. -/
def crc16Bit (r : Crc16) : Crc16 := if r.msb then (r <<< 1) ^^^ 0x1021 else r <<< 1

/-- `n` bit times. -/
def crc16Bits : Nat → Crc16 → Crc16
  | 0, r => r
  | n + 1, r => crc16Bits n (crc16Bit r)

/-- A byte enters the register, most significant bit first (R173). -/
def crc16Byte (r : Crc16) (x : Byte) : Crc16 := crc16Bits 8 (r ^^^ (x.setWidth 16 <<< 8))

/-- The CRC-16 of R173: initial value 0xFFFF, neither reflected nor inverted. -/
def crc16 (l : List Byte) : Crc16 := l.foldl crc16Byte 0xFFFF

/-- The format byte of this revision (R173). -/
def formatByte : Byte := 0x01

/-- A stored block: format byte, fields, CRC-16, and the mark that an unfinished, failed or pended write leaves, by
which the block is bad (R175, R176). -/
structure Stored where
  format : Byte
  data : BlockData
  crc : Crc16
  marked : Bool
  deriving DecidableEq, Repr

/-- R173: a stored block is good when both its format byte and its CRC-16 check, and no unfinished write marks it. -/
def Stored.good (st : Stored) (b : Block) : Bool :=
  !st.marked && st.format == formatByte && st.crc == crc16 (blockImage st.format b st.data)

/-- A block written whole: its format byte, fields and CRC-16 (R175). -/
def Stored.written (b : Block) (d : BlockData) : Stored :=
  ⟨formatByte, d, crc16 (blockImage formatByte b d), false⟩

end Sys2Proof.Machine
end

