-- ==== Sys2Proof/Machine/State.lean ====
section
/-! DEFINITION. The state of the part, block by block (00_scope.md Table 1), as plain data, its reset value, and the
closed types of faults and refusals. -/

namespace Sys2Proof.Machine

/-! ### Containers -/

/-- One value for each of the seven consumers. -/
structure PerConsumer (α : Type) where
  fan : α
  glow : α
  pump : α
  compressor : α
  bunkLower : α
  bunkUpper : α
  chime : α
  deriving DecidableEq, Repr

/-- One value for each of the three lights. -/
structure PerLight (α : Type) where
  lower : α
  upper : α
  chime : α
  deriving DecidableEq, Repr

/-! ### Measurement unit (chapter 1) -/

/-- The validity states of R7, and R8's state before the judgement at the end of settling. -/
inductive Validity where
  | unjudged | valid | fault
  deriving DecidableEq, Repr

/-- A temperature sensor (R5, R7, R8). -/
structure SensorState where
  /-- The filter of converted in-window temperatures, oldest first, up to 8 (R5). -/
  filter : List Int
  /-- Run of out-of-window sets, 0 to 255 (R7). -/
  outRun : Nat
  /-- Run of in-window sets, 0 to 255 (R7). -/
  inRun : Nat
  /-- The last out-of-window set read below the window (the LOW of R7). -/
  lastLow : Bool
  validity : Validity
  /-- The reported value in 0.1 °C (R5). -/
  reported : Int
  deriving DecidableEq, Repr

/-- A debounced input: its level (true = active: ignition on, lid open, key pressed) and the count of consecutive sets
in which the raw level differed (R9). -/
structure Debounce where
  level : Bool
  count : Nat
  deriving DecidableEq, Repr

/-- The classification states of R10. -/
inductive KeyClass where
  | idle | held | longGiven | repeating | ignored
  deriving DecidableEq, Repr

/-- A key (R9, R10, R12). -/
structure KeyState where
  deb : Debounce
  cls : KeyClass
  /-- Hold time in ms. -/
  hold : Nat
  /-- Hold time in ms at which the next REPEAT is classified (R12). -/
  nextRepeat : Nat
  deriving DecidableEq, Repr

/-- The measurement unit. -/
structure Meas where
  /-- Sample sets completed since reset release. -/
  sets : Nat
  /-- The last 16 VBAT readings in mV, oldest first (R2). -/
  vbatRing : List Nat
  vbatF : Nat
  /-- On-currents of the last set in mA (R3). -/
  onCurrent : PerChannel Nat
  /-- On-current histories of the last 100 sets (R3). -/
  history : PerChannel (List Nat)
  tsc : SensorState
  tsx : SensorState
  tsf : SensorState
  dieFilter : List Int
  dieReported : Int
  /-- The running one-second sum, the ring of ten one-second means and the 10 s cab mean (R6). -/
  secSum : Int
  cabRing : List Int
  cabMean : Int
  ign : Debounce
  lid : Debounce
  keys : PerKey KeyState
  deriving DecidableEq, Repr

/-! ### Output stage (chapter 2) -/

/-- The drive modes of Table 19. -/
inductive Mode where
  | off | duty | compensated | stroke
  deriving DecidableEq, Repr

/-- The record states of Table 20. -/
inductive RecState where
  | off | driving | tripped | latched | held
  deriving DecidableEq, Repr

/-- A channel record (Table 19). -/
structure ChanRec where
  /-- None (not fitted), one channel, or the two of a pair (R16). -/
  chans : List Channel
  mode : Mode
  /-- ‰ in DUTY, mV in COMPENSATED, none in OFF and STROKE. -/
  demand : Option Nat
  computed : Nat
  applied : Nat
  state : RecState
  trips : Nat
  /-- Seconds counter of the first trip of the open window (R28). -/
  windowStart : Option Nat
  /-- Retry time left in ms (R27). -/
  retry : Option Nat
  openLoad : Bool
  lowRun : Nat
  highRun : Nat
  saturated : Bool
  slotSum : Nat
  secMean : Nat
  /-- The last 60 one-second means, oldest first (R25). -/
  ring60 : List Nat
  deriving DecidableEq, Repr

/-- The verification outcomes of R22. -/
inductive Outcome where
  | confirmed | missed | unverified | noCurrent
  deriving DecidableEq, Repr

/-- The two phases of a stroke pulse (R21). -/
inductive PulsePhase where
  | hit | hold
  deriving DecidableEq, Repr

/-- A stroke pulse in progress with the settings taken at its start (R21, R22). -/
structure Pulse where
  /-- Its start in ms since reset release. -/
  start : Nat
  hitTime : Nat
  holdTime : Nat
  vHold : Nat
  startCurrent : Nat
  dip : Nat
  phase : PulsePhase
  /-- Fast readings taken in the hit phase. -/
  readings : Nat
  peak : Nat
  /-- A reading has exceeded START_CURRENT. -/
  exceeded : Bool
  dipSeen : Bool
  /-- VBAT_F was below 20 000 mV at the start. -/
  lowSupply : Bool
  deriving DecidableEq, Repr

/-- The stroke fields of the PUMP record (Table 19). -/
structure Stroke where
  pulse : Option Pulse
  miss : Nat
  last : Option Outcome
  fault : Bool
  overlaps : Nat
  /-- On-time in µs, in the present 10 ms, of pulse phases already ended (R24). -/
  onTime : Nat
  deriving DecidableEq, Repr

/-- The output stage. -/
structure Out where
  mapInForce : List (Option Consumer)
  /-- PWM master frequency in force, in kHz (R17). -/
  masterFreq : Nat
  recs : PerConsumer ChanRec
  stroke : Stroke
  floorHold : Bool
  thermalHold : Bool
  deriving DecidableEq, Repr

/-! ### Heater sequencer (chapter 3) -/

/-- The heater states in number order (Table 30). -/
inductive HState where
  | off | check | glow | prime | ignition | stabilise | run | purge | waitDemand | lockout
  deriving DecidableEq, Repr

inductive HMode where
  | thermostat | fixed
  deriving DecidableEq, Repr

/-- Where the present CHECK was entered from (Table 31). -/
inductive Origin where
  | off | waitDemand | retry
  deriving DecidableEq, Repr

/-- The next of a purge (Table 31). -/
inductive Next where
  | off | retry | waitDemand | lockout
  deriving DecidableEq, Repr

/-- The lockout causes in number order from 1 (Table 41). -/
inductive Cause where
  | noFlame | flameOut | overheat | pump | fan | sensor | purgeHot | supplyLost | thermal | store
  deriving DecidableEq, Repr

/-- The run timer (Table 31), its time left in sample sets. -/
inductive RunTimer where
  | absent | unlimited | left (sets : Nat)
  deriving DecidableEq, Repr

/-- A ramp of P_eff (R45). -/
structure PeffRamp where
  old : Nat
  new : Nat
  /-- Elapsed ms. -/
  elapsed : Nat
  deriving DecidableEq, Repr

/-- The purge record (Table 31). -/
structure Purge where
  next : Next
  cause : Option Cause
  burnOff : Bool
  suspended : Bool
  fullLength : Bool
  /-- Purge time in sample sets. -/
  sets : Nat
  deriving DecidableEq, Repr

/-- The lockout record, also kept in block 3 (R65). -/
structure Lockout where
  flag : Bool
  cause : Option Cause
  count : Nat
  starts : Nat
  restarted : Nat
  deriving DecidableEq, Repr

/-- The heater record (Table 31). Times "in sets" are counted in sample sets (R38). -/
structure Heater where
  state : HState
  mode : HMode
  target : Int
  fixedStage : Nat
  origin : Origin
  attempts : Nat
  restarts : Nat
  stage : Nat
  /-- Stage time in sets. -/
  stageSets : Nat
  peff : Nat
  ramp : Option PeffRamp
  /-- Next stroke due time in ms since reset release (R44). -/
  nextStroke : Option Nat
  lastPeriod : Option Nat
  runTimer : RunTimer
  tRef : Int
  /-- The exchanger peak ring, oldest first (R42). -/
  peakRing : List Int
  /-- Maximum of the exchanger second under way, and its sets. -/
  secMax : Option Int
  secSets : Nat
  purge : Option Purge
  /-- Hold time in sets (R58). -/
  holdSets : Nat
  /-- The cause that the hold which suspended the purge stands for (R58). -/
  heldBy : Cause
  /-- Evaluations counted toward idle-off (R49). -/
  idleOff : Nat
  /-- Restart wait left, in sets (R49). -/
  restartWait : Nat
  /-- RUN time in sets (R47). -/
  runSets : Nat
  /-- Sets since the entry of the present state. -/
  stateSets : Nat
  /-- The length in s of the present GLOW or IGNITION, taken at its entry (R42, R43). -/
  stateLen : Nat
  flame : Bool
  /-- The demands as taken at CHECK entry, at the stage choice and at PURGE entry (Table 42). -/
  startFan : Nat
  glowTarget : Nat
  stageFan : Nat
  purgeFan : Nat
  /-- The 30 s of GLOW of the present STABILISE or PURGE have passed (R38). -/
  glowOff : Bool
  /-- The maximum test of the last sample set found the purge at its maximum (the model's own; R53, log 57). -/
  purgeMaxed : Bool
  lockout : Lockout
  deriving DecidableEq, Repr

/-! ### Cooling controller (chapter 4) -/

/-- The cooling states in number order (Table 44). -/
inductive CState where
  | off | minOff | waiting | running | fault
  deriving DecidableEq, Repr

/-- The speed steps in the order of R81. -/
inductive Speed where
  | none | low | mid | high
  deriving DecidableEq, Repr

/-- The start check in the order of R81. -/
inductive StartCheck where
  | none | pending | passed
  deriving DecidableEq, Repr

/-- The fault causes in the order of R81. -/
inductive CoolFault where
  | none | noStart | latched
  deriving DecidableEq, Repr

/-- The cooling record (Table 45). -/
structure Cooling where
  state : CState
  on : Bool
  setpoint : Int
  step : Speed
  /-- The CSPD duty in ‰, 0 = held low (R67). -/
  cspd : Nat
  /-- Step time in sets. -/
  stepSets : Nat
  /-- RUNNING time in sets. -/
  runSets : Nat
  check : StartCheck
  /-- The event at 60 s of RUNNING time has been taken in this run. -/
  sixty : Bool
  /-- Minimum-off left in ms (R68). -/
  minOff : Nat
  /-- Time since switch-off in ms (R68). -/
  sinceOff : Nat
  /-- Off time left in ms, in MIN_OFF (R70). -/
  offLeft : Nat
  /-- The cut-in test of the last sample set held, and CUT_IN has not been taken (R70, log 46). -/
  cutIn : Bool
  stopPending : Bool
  failures : Nat
  fault : CoolFault
  fallback : Bool
  degraded : Bool
  shed : Bool
  held : Bool
  /-- Sets the lid has been open; none with the lid closed. -/
  lidSets : Option Nat
  lidReported : Bool
  deriving DecidableEq, Repr

/-! ### Light unit (chapter 5) -/

/-- A ramp of a level (R85). -/
structure Ramp where
  start : Nat
  target : Nat
  /-- Ramp time in ms. -/
  time : Nat
  /-- Sample sets since its start; the elapsed time grows by 20 ms at every second one. -/
  sets : Nat
  deriving DecidableEq, Repr

/-- A program step: level in %, ramp and hold in ms (Table 55). -/
structure PStep where
  level : Nat
  ramp : Nat
  hold : Nat
  deriving DecidableEq, Repr

/-- A loaded program (Table 55): 0 runs = endless. -/
structure Program where
  tag : Nat
  runs : Nat
  steps : List PStep
  deriving DecidableEq, Repr

/-- The phase of a step (R90), with the ramp under way or the sets since the ramp ended. -/
inductive Phase where
  | ramp (r : Ramp)
  | hold (sets : Nat)
  deriving DecidableEq, Repr

/-- An active program (Table 51). -/
structure Active where
  prog : Program
  /-- Run number, from 1. -/
  run : Nat
  /-- Step number, from 1. -/
  step : Nat
  phase : Phase
  /-- Sample sets since the beginning of the step. -/
  age : Nat
  deriving DecidableEq, Repr

/-- An alert part that plays (R93): its pattern, the sample sets since its start, and, for the light part of WAKE, its
ramp once it is complete or under way. -/
structure Part where
  pattern : Pattern
  sets : Nat
  ramp : Option Ramp
  deriving DecidableEq, Repr

/-- A light record (Table 51). -/
structure LightRec where
  steady : Nat
  lastNonzero : Nat
  ramp : Option Ramp
  present : Nat
  applied : Nat
  active : Option Active
  waiting : List Program
  playing : Option Part
  /-- The pending alert part. -/
  queued : Option Pattern
  degraded : Bool
  shed : Bool
  deriving DecidableEq, Repr

/-- The light unit. -/
structure Lights where
  recs : PerLight LightRec
  cutoffHold : Bool
  /-- The wake record (R96): the ramp time Tw in ms, the wake chime timer in ms, the chime-done flag. -/
  wakeRamp : Nat
  wakeTimer : Option Nat
  chimeDone : Bool
  /-- The model's own (log 72): the chime-done flag was set after the last sample set, by an alert that came between two
  sets, so no sample set has found it yet. -/
  chimeFresh : Bool
  deriving DecidableEq, Repr

/-! ### Duty clock (chapter 6) -/

/-- The activity kinds of Table 63. -/
inductive Kind where
  | stop | drive | rest
  deriving DecidableEq, Repr

/-- The end causes of Table 65. -/
inductive EndCause where
  | open | ignition | vehicle | restBegin | restEnd | interrupted
  deriving DecidableEq, Repr

/-- The vehicle states of R105. -/
inductive Vehicle where
  | stopped | moving
  deriving DecidableEq, Repr

/-- A closed period record (Table 65). -/
structure Period where
  kind : Kind
  cause : EndCause
  start : Nat
  duration : Nat
  deriving DecidableEq, Repr

inductive SessionState where
  | active | due
  deriving DecidableEq, Repr

inductive SessionOrigin where
  | request | key4
  deriving DecidableEq, Repr

/-- A prewarm: lead in min and target in 0.1 °C (Table 69). -/
structure Prewarm where
  lead : Nat
  target : Int
  deriving DecidableEq, Repr

/-- The rest session record (Table 69); the planned end is start + planned × 60. -/
structure Session where
  state : SessionState
  origin : SessionOrigin
  start : Nat
  /-- Planned length in min. -/
  planned : Nat
  /-- Wake lead in min. -/
  wakeLead : Nat
  prewarm : Option Prewarm
  deriving DecidableEq, Repr

/-- The threshold marks of a span (R110). -/
structure Marks where
  first : Bool
  second : Bool
  full : Bool
  daily : Bool
  deriving DecidableEq, Repr

/-- The duty clock. -/
structure Duty where
  /-- The closed period records, oldest first, up to 47 (R107). -/
  closed : List Period
  /-- The open period record; its kind is the kind in force. -/
  current : Period
  reported : Vehicle
  effective : Vehicle
  hold : Option Nat
  stale : Nat
  staleFlag : Bool
  cd : Nat
  dd : Nat
  ns : Nat
  sp : Bool
  pf : Bool
  marks : Marks
  breakGiven : Bool
  /-- The four warning latches (R112), the repeat counts in s and the repeat numbers (R113). -/
  cdPre : Bool
  cdLimit : Bool
  ddPre : Bool
  ddLimit : Bool
  cdRepeat : Option Nat
  ddRepeat : Option Nat
  cdRepeatNo : Nat
  ddRepeatNo : Nat
  session : Option Session
  historyIncomplete : Bool
  deriving DecidableEq, Repr

/-! ### Timer unit (chapter 7) -/

/-- The forms of Table 75. -/
inductive Form where
  | weekly (minute mask : Nat)
  | onceAt (minute : Nat)
  | after (seconds : Nat)
  | linked
  deriving DecidableEq, Repr

/-- A timer entry (Table 75): `due` is none in WAITING_CLOCK. -/
structure Entry where
  id : Nat
  form : Form
  action : Action
  due : Option Nat
  deriving DecidableEq, Repr

/-- The timer unit. -/
structure Timer where
  seconds : Nat
  valid : Bool
  /-- Minute-of-week and second (Section 7.2). -/
  minute : Nat
  second : Nat
  /-- The timer table in the order of R128. -/
  table : List Entry
  /-- Ids that the check of the last timer second found due and that have not been fired (R133). -/
  firing : List Nat
  deriving DecidableEq, Repr

/-! ### Reserve account (chapter 8) -/

/-- The bands in code order (Table 84). -/
inductive Band where
  | normal | low | critical | cutoff
  deriving DecidableEq, Repr

/-- A record of the applied-step stack (R145). -/
structure StackRec where
  step : Nat
  time : Nat
  draw : Nat
  deriving DecidableEq, Repr

/-- The reserve account (Table 81); R is A − D and L is the stack's length. -/
structure Reserve where
  charging : Bool
  chargeRun : Nat
  /-- The CHARGING spell in 10 ms steps (R137). -/
  spell : Nat
  allowance : Nat
  drawn : Nat
  rem : Nat
  external : Nat
  ring : List Nat
  iTot : Nat
  iAvg : Nat
  tLeft : Nat
  /-- H as the last accounting second set it; before the first one H is shown as the idle horizon (R155). -/
  horizon : Option Nat
  band : Band
  lowRun : Nat
  criticalRun : Nat
  cutoffRun : Nat
  leaveRun : Nat
  cutoffHold : Bool
  ladder : List LadderStep
  /-- The applied-step stack, bottom first. -/
  stack : List StackRec
  lastChange : Nat
  restoreHold : Nat
  /-- The last sample set held an accounting second. -/
  accounted : Bool
  deriving DecidableEq, Repr

/-! ### Link interface (chapter 9) -/

/-- A request frame between SYNC and CHK. -/
structure Frame where
  ctr : Byte
  kind : Byte
  payload : List Byte
  deriving DecidableEq, Repr

/-- The receiver with its assembly buffer (R158). -/
inductive Rx where
  | hunt
  | length
  /-- LEN, and the bytes after it so far, oldest first. -/
  | body (len : Byte) (bytes : List Byte)
  /-- The byte kept as the CTR of the REJECT. -/
  | discard (ctr : Option Byte)
  deriving DecidableEq, Repr

/-- A frame of the transmitter: a reply or a REJECT, all its bytes (Table 90). -/
inductive Tx where
  | reply (bytes : List Byte)
  | reject (bytes : List Byte)
  deriving DecidableEq, Repr

/-- The link interface. -/
structure Link where
  /-- The bit rate in force is 57 600 bit/s (R156). -/
  fast : Bool
  rx : Rx
  /-- The frame in work (R159). -/
  work : Option Frame
  /-- The pending frame (R159). -/
  waiting : Option Frame
  /-- The frame being sent. -/
  tx : Option Tx
  /-- Frames that wait for the transmitter, in the order in which they became ready (R161); a REJECT among them is
  the one in the REJECT slot. -/
  ready : List Tx
  checksum : Nat
  gap : Nat
  length : Nat
  overrun : Nat
  deriving DecidableEq, Repr

/-! ### Notice queue (chapter 10) -/

/-- The source codes of Table 96. -/
inductive Source where
  | meas | out | htr | cool | lgt | duty | tmr | rsv | lnk | ntq | sto
  deriving DecidableEq, Repr

/-- The notice kinds in code order from 1 (Table 97). -/
inductive Notice where
  | restarted | sensorFault | sensorOk | key | channelFault | channelClear | openLoad | heaterState | heaterDeclined
  | heaterLockout | coolingState | coolingFault | lidOpen | programEnd | alertPlayed | drivePrewarn | driveLimit
  | dailyPrewarn | dailyLimit | breakTaken | dailyRestDone | restBegin | restDue | restEnd | restShort | vehicleStale
  | timerFired | timerMissed | shedStep | restoreStep | bandChange | accountRefilled | storeDone | storeDefaulted
  | storeCheck | lost
  deriving DecidableEq, Repr

/-- A notice record (Table 95), its value as posted and its creation time. -/
structure Record where
  kind : Notice
  source : Source
  detail : Nat
  value : Int
  count : Nat
  time : Nat
  deriving DecidableEq, Repr

/-- The notice queue. -/
structure Ntq where
  records : List Record
  lost : Nat
  /-- Stretch and LINK timers in ms (R169). -/
  supplyTimer : Option Nat
  thermalTimer : Option Nat
  linkTimer : Option Nat
  deriving DecidableEq, Repr

/-! ### Settings store (chapter 11) -/

/-- The load results in the order of R178. -/
inductive LoadResult where
  | loaded | badCheck | byDefsel | notYet
  deriving DecidableEq, Repr

/-- The two phases of a write (R175). -/
inductive WritePhase where
  | writing | reading
  deriving DecidableEq, Repr

/-- A write in flight (R175, R176). -/
structure Write where
  block : Block
  /-- A part write (R176), not a commit. -/
  part : Bool
  snapshot : BlockData
  phase : WritePhase
  /-- The write has been made once more after a mismatch. -/
  second : Bool
  /-- A WRITE SETTING of the block was accepted after the snapshot (R173). -/
  dirtied : Bool
  deriving DecidableEq, Repr

/-- What the store is doing (R178). A check keeps whether block 3 was good when it began (log 17). -/
inductive Activity where
  | idle
  | write (w : Write)
  | check (block3 : Bool)
  deriving DecidableEq, Repr

/-- The check result (R178). -/
inductive CheckResult where
  | none | running | pass | fail (b : Block)
  deriving DecidableEq, Repr

/-- The settings store. -/
structure Store where
  working : Working
  stored : PerBlock Stored
  lock : Bool
  uncommitted : PerBlock Bool
  held : PerBlock (Option Crc16)
  loadResult : PerBlock LoadResult
  activity : Activity
  pendingPart : Bool
  /-- The last write result: the block, and whether it completed OK. -/
  lastWrite : Option (Block × Bool)
  check : CheckResult
  deriving DecidableEq, Repr

/-! ### The part -/

/-- Held in reset, settling after it, or running (R179). -/
inductive Power where
  | inReset | settling | running
  deriving DecidableEq, Repr

/-- The reset causes in the order of R165. -/
inductive ResetCause where
  | powerOn | pin | reinitialise
  deriving DecidableEq, Repr

/-- Reset and start-up state (R165, R179). -/
structure Sys where
  phase : Power
  cause : ResetCause
  /-- The DEFSEL strap as sampled at release. -/
  defsel : Bool
  /-- Blocks loaded since the release, 0 to 10. -/
  loads : Nat
  deriving DecidableEq, Repr

/-- The state of the part. -/
structure State where
  sys : Sys
  meas : Meas
  out : Out
  htr : Heater
  cool : Cooling
  lgt : Lights
  duty : Duty
  tmr : Timer
  rsv : Reserve
  lnk : Link
  ntq : Ntq
  sto : Store
  /-- The MODEL's own counter that the free values of Config are applied to (log 9). -/
  free : Nat
  /-- The MODEL's own queue of waiting commands, the front first. -/
  pending : List Instr
  deriving DecidableEq, Repr

/-- No command of the part stops it: every fault of the part is a state that the spec describes. The one constructor is
raised by nobody; the type is closed. -/
inductive Fault where
  /-- Raised by no command (safe: no step ends here). -/
  | none
  deriving DecidableEq, Repr

/-- Why a command is turned away by the model. -/
inductive Refusal where
  /-- Raised by an arm of `exec` whose command has no meaning yet (safe: the step stops). No arm is left so. -/
  | notModelled (mnemonic : String)
  deriving DecidableEq, Repr

/-! ### Starting values, block by block -/

/-- One value for every channel. -/
def everyChannel {α : Type} (v : α) : PerChannel α := ⟨v, v, v, v, v, v, v, v⟩

/-- A sensor after a power-on or pin reset (Table 17). -/
def SensorState.start : SensorState := ⟨[], 0, 0, false, .unjudged, 0⟩

/-- A key after a power-on or pin reset (Table 17); its level comes with the first set. -/
def KeyState.start : KeyState := ⟨⟨false, 0⟩, .idle, 0, 800⟩

/-- The measurement unit after a power-on or pin reset (Table 17). -/
def Meas.start : Meas where
  sets := 0
  vbatRing := []
  vbatF := 0
  onCurrent := everyChannel 0
  history := everyChannel []
  tsc := .start
  tsx := .start
  tsf := .start
  dieFilter := []
  dieReported := 0
  secSum := 0
  cabRing := []
  cabMean := 0
  ign := ⟨false, 0⟩
  lid := ⟨false, 0⟩
  keys := ⟨.start, .start, .start, .start, .start⟩

/-- A channel record in the starting state of R37 with its channels, in OFF or, under a hold, HELD. -/
def ChanRec.start (chans : List Channel) (holding : Bool) : ChanRec where
  chans := chans
  mode := .off
  demand := none
  computed := 0
  applied := 0
  state := if holding && !chans.isEmpty then .held else .off
  trips := 0
  windowStart := none
  retry := none
  openLoad := false
  lowRun := 0
  highRun := 0
  saturated := false
  slotSum := 0
  secMean := 0
  ring60 := []

/-- The stroke fields in the starting state of R37. -/
def Stroke.start : Stroke := ⟨none, 0, none, false, 0, 0⟩

/-- The records of a map in the starting state of R37. -/
def recsOf (m : List (Option Consumer)) (holding : Bool) : PerConsumer ChanRec where
  fan := .start (channelsOf .fan m 0) holding
  glow := .start (channelsOf .glow m 0) holding
  pump := .start (channelsOf .pump m 0) holding
  compressor := .start (channelsOf .compressor m 0) holding
  bunkLower := .start (channelsOf .bunkLower m 0) holding
  bunkUpper := .start (channelsOf .bunkUpper m 0) holding
  chime := .start (channelsOf .chime m 0) holding

/-- A map with every entry NONE. -/
def emptyMap : List (Option Consumer) := [none, none, none, none, none, none, none, none]

/-- The output stage from the start of a reset until the map is loaded (R37, log 5). -/
def Out.start : Out where
  mapInForce := emptyMap
  masterFreq := 20
  recs := recsOf emptyMap false
  stroke := .start
  floorHold := false
  thermalHold := false

/-- The lockout record's defaults (R65). -/
def Lockout.start : Lockout := ⟨false, none, 0, 0, 0⟩

/-- The heater record in its starting values (R66, Table 43; log 21). -/
def Heater.start : Heater where
  state := .off
  mode := .thermostat
  target := 210
  fixedStage := 1
  origin := .off
  attempts := 0
  restarts := 0
  stage := 1
  stageSets := 0
  peff := 0
  ramp := none
  nextStroke := none
  lastPeriod := none
  runTimer := .absent
  tRef := 0
  peakRing := []
  secMax := none
  secSets := 0
  purge := none
  holdSets := 0
  heldBy := .supplyLost
  idleOff := 0
  restartWait := 0
  runSets := 0
  stateSets := 0
  stateLen := 0
  flame := false
  startFan := 350
  glowTarget := 18000
  stageFan := 450
  purgeFan := 900
  glowOff := false
  purgeMaxed := false
  lockout := .start

/-- The cooling record from the start of a reset until the load (R68, R83, log 5). -/
def Cooling.start : Cooling where
  state := .off
  on := false
  setpoint := 40
  step := .none
  cspd := 0
  stepSets := 0
  runSets := 0
  check := .none
  sixty := false
  minOff := 180000
  sinceOff := 0
  offLeft := 0
  cutIn := false
  stopPending := false
  failures := 0
  fault := .none
  fallback := false
  degraded := false
  shed := false
  held := false
  lidSets := none
  lidReported := false

/-- A light record in its starting state with its last nonzero level (R103). -/
def LightRec.start (last : Nat) : LightRec := ⟨0, last, none, 0, 0, none, [], none, none, false, false⟩

/-- The light unit in its starting state (R103): the on levels and the cutoff hold. The ramp time that an empty wake record
holds is log 43's. -/
def Lights.start (lower upper : Nat) (cutoff : Bool) : Lights :=
  ⟨⟨.start lower, .start upper, .start 100⟩, cutoff, 60000, none, false, false⟩

/-- The duty clock after a power-on or pin reset (R123). -/
def Duty.start : Duty where
  closed := []
  current := ⟨.stop, .open, 0, 0⟩
  reported := .stopped
  effective := .stopped
  hold := none
  stale := 0
  staleFlag := false
  cd := 0
  dd := 0
  ns := 0
  sp := false
  pf := false
  marks := ⟨false, false, false, false⟩
  breakGiven := false
  cdPre := false
  cdLimit := false
  ddPre := false
  ddLimit := false
  cdRepeat := none
  ddRepeat := none
  cdRepeatNo := 0
  ddRepeatNo := 0
  session := none
  historyIncomplete := true

/-- The timer unit after a power-on or pin reset, before block 9 is loaded (R124, R125, R136). -/
def Timer.start : Timer := ⟨0, false, 0, 0, [], []⟩

/-- The reserve account after a power-on or pin reset (R155); A and the ladder come with the load (log 5). -/
def Reserve.start : Reserve where
  charging := false
  chargeRun := 0
  spell := 0
  allowance := 60000
  drawn := 0
  rem := 0
  external := 0
  ring := []
  iTot := 0
  iAvg := 0
  tLeft := 0
  horizon := none
  band := .normal
  lowRun := 0
  criticalRun := 0
  cutoffRun := 0
  leaveRun := 0
  cutoffHold := false
  ladder := defaultLadder
  stack := []
  lastChange := 0
  restoreHold := 0
  accounted := false

/-- The link interface from reset release, with its rate (R156). -/
def Link.start (fast : Bool) : Link := ⟨fast, .hunt, none, none, none, [], 0, 0, 0, 0⟩

/-- The notice queue from the start of a reset (R172). -/
def Ntq.start : Ntq := ⟨[], 0, none, none, none⟩

/-- The store's volatile part from the start of a reset, over a nonvolatile part (Table 105, log 5). -/
def Store.start (stored : PerBlock Stored) (lock : Bool) : Store where
  working := .ofFun blockDefaults
  stored := stored
  lock := lock
  uncommitted := .ofFun fun _ => false
  held := .ofFun fun _ => none
  loadResult := .ofFun fun _ => .notYet
  activity := .idle
  pendingPart := false
  lastWrite := none
  check := .none

/-- The part with its volatile state at the starting values, over a nonvolatile store. -/
def State.cleared (sys : Sys) (fast : Bool) (stored : PerBlock Stored) (lock : Bool) (free : Nat)
    (pending : List Instr) : State where
  sys := sys
  meas := .start
  out := .start
  htr := .start
  cool := .start
  lgt := .start 60 60 false
  duty := .start
  tmr := .start
  rsv := .start
  lnk := .start fast
  ntq := .start
  sto := .start stored lock
  free := free
  pending := pending

/-- The store of a part at first supply: every block good with its defaults (DESIGN CHOICE, log 4). -/
def factoryStore : PerBlock Stored := .ofFun fun b => .written b (blockDefaults b)

/-- The machine right after reset: a power-on reset at first supply, released with both straps low (log 4), before
the first block load and the first sample set. -/
def State.reset : State := .cleared ⟨.settling, .powerOn, false, 0⟩ false factoryStore false 0 []

end Sys2Proof.Machine
end

