-- ==== Sys2Proof/Machine/Ops.lean ====
section
/-! DEFINITION. The shared operations: access to the containers, posting a notice (R166), writing a demand (R18), the
heater's part write (R176), and the gate that a part held in reset puts before every command. -/

namespace Sys2Proof.Machine

/-! ### Containers -/

def PerConsumer.get {α : Type} (p : PerConsumer α) : Consumer → α
  | .fan => p.fan | .glow => p.glow | .pump => p.pump | .compressor => p.compressor
  | .bunkLower => p.bunkLower | .bunkUpper => p.bunkUpper | .chime => p.chime

def PerConsumer.set {α : Type} (p : PerConsumer α) (c : Consumer) (v : α) : PerConsumer α :=
  match c with
  | .fan => { p with fan := v } | .glow => { p with glow := v } | .pump => { p with pump := v }
  | .compressor => { p with compressor := v } | .bunkLower => { p with bunkLower := v }
  | .bunkUpper => { p with bunkUpper := v } | .chime => { p with chime := v }

/-- The record of every consumer, changed by a function that knows the consumer. -/
def PerConsumer.mapC {α β : Type} (p : PerConsumer α) (f : Consumer → α → β) : PerConsumer β where
  fan := f .fan p.fan
  glow := f .glow p.glow
  pump := f .pump p.pump
  compressor := f .compressor p.compressor
  bunkLower := f .bunkLower p.bunkLower
  bunkUpper := f .bunkUpper p.bunkUpper
  chime := f .chime p.chime

def PerLight.get {α : Type} (p : PerLight α) : Light → α
  | .lower => p.lower | .upper => p.upper | .chime => p.chime

def PerLight.set {α : Type} (p : PerLight α) (l : Light) (v : α) : PerLight α :=
  match l with
  | .lower => { p with lower := v } | .upper => { p with upper := v } | .chime => { p with chime := v }

def keyGet {α : Type} (p : PerKey α) : Key → α
  | .key0 => p.key0 | .key1 => p.key1 | .key2 => p.key2 | .key3 => p.key3 | .key4 => p.key4

def keySet {α : Type} (p : PerKey α) (k : Key) (v : α) : PerKey α :=
  match k with
  | .key0 => { p with key0 := v } | .key1 => { p with key1 := v } | .key2 => { p with key2 := v }
  | .key3 => { p with key3 := v } | .key4 => { p with key4 := v }

/-- The value of a channel. -/
def channelGet {α : Type} (p : PerChannel α) (i : Channel) : α :=
  match i with
  | 0 => p.ch0 | 1 => p.ch1 | 2 => p.ch2 | 3 => p.ch3 | 4 => p.ch4 | 5 => p.ch5 | 6 => p.ch6 | 7 => p.ch7

/-- A function of the channel number as a value for each channel. -/
def channelsBy {α : Type} (f : Channel → α) : PerChannel α := ⟨f 0, f 1, f 2, f 3, f 4, f 5, f 6, f 7⟩

def Meas.sensor (m : Meas) : Sensor → SensorState
  | .tsc => m.tsc | .tsx => m.tsx | .tsf => m.tsf

def Meas.setSensor (m : Meas) (x : Sensor) (v : SensorState) : Meas :=
  match x with
  | .tsc => { m with tsc := v } | .tsx => { m with tsx := v } | .tsf => { m with tsf := v }

/-- The record of a consumer. -/
def State.chan (s : State) (c : Consumer) : ChanRec := s.out.recs.get c

/-- The state with a consumer's record replaced. -/
def State.setChan (s : State) (c : Consumer) (r : ChanRec) : State :=
  { s with out := { s.out with recs := s.out.recs.set c r } }

/-- The light record of a light. -/
def State.light (s : State) (l : Light) : LightRec := s.lgt.recs.get l

/-- The state with a light record replaced. -/
def State.setLight (s : State) (l : Light) (r : LightRec) : State :=
  { s with lgt := { s.lgt with recs := s.lgt.recs.set l r } }

/-- A consumer stands in the map in force (R16). -/
def fitted (s : State) (c : Consumer) : Bool := !(s.chan c).chans.isEmpty

/-- The heater is fitted: FAN, GLOW and PUMP stand in the map together (R16). -/
def heaterFitted (s : State) : Bool := fitted s .fan && fitted s .glow && fitted s .pump

/-- Cooling is fitted (R16). -/
def coolingFitted (s : State) : Bool := fitted s .compressor

/-- A hold of the output stage is active (R32). -/
def holding (s : State) : Bool := s.out.floorHold || s.out.thermalHold

/-- ms since reset release at the last sample set. -/
def nowMs (s : State) : Nat := 10 * s.meas.sets

/-- The working copy of the settings. -/
def State.set (s : State) : Working := s.sto.working

/-- The part is settling (R164). -/
def State.settling (s : State) : Bool := s.sys.phase == .settling

/-- The remaining reserve R (R141). -/
def remaining (r : Reserve) : Nat := r.allowance - r.drawn

/-- The ladder level L (R145). -/
def ladderLevel (r : Reserve) : Nat := r.stack.length

/-- The steps of the ladder now applied: steps 1 to L (R145). -/
def appliedSteps (r : Reserve) : List LadderStep := r.ladder.take (ladderLevel r)

/-- A step of the ladder is applied. -/
def stepApplied (r : Reserve) (c : LadderConsumer) (a : LadderAction) : Bool := (appliedSteps r).contains ⟨c, a⟩

/-- A sensor is VALID; before the end of settling a block is answered FAULT (R8). -/
def sensorValid (s : State) (x : Sensor) : Bool := (s.meas.sensor x).validity == .valid

/-- The reported value of a sensor (R5). -/
def reported (s : State) (x : Sensor) : Int := (s.meas.sensor x).reported

/-! ### The gate of a part held in reset (R179) -/

/-- A command's effect on a part that is out of reset; a part held in reset does nothing (log 27). -/
def State.live (s : State) (f : State → State) : Host.Outcome State Fault Refusal :=
  .next (if s.sys.phase = .inReset then s else f s)

/-- An event's effect if it is due, and no effect otherwise (log 1). An event that a sample set completes comes after all
that the set itself does, and is not due if that has ended what it stood for (log 58). -/
def whenDue (due : Bool) (s : State) (f : State → State) : State := if due then f s else s

/-! ### The notice queue (R166, R167) -/

/-- The source of a notice kind (Table 97). -/
def noticeSource : Notice → Source
  | .restarted => .ntq | .sensorFault => .meas | .sensorOk => .meas | .key => .meas
  | .channelFault => .out | .channelClear => .out | .openLoad => .out
  | .heaterState => .htr | .heaterDeclined => .htr | .heaterLockout => .htr
  | .coolingState => .cool | .coolingFault => .cool | .lidOpen => .cool
  | .programEnd => .lgt | .alertPlayed => .lgt
  | .drivePrewarn => .duty | .driveLimit => .duty | .dailyPrewarn => .duty | .dailyLimit => .duty
  | .breakTaken => .duty | .dailyRestDone => .duty | .restBegin => .duty | .restDue => .duty | .restEnd => .duty
  | .restShort => .duty | .vehicleStale => .duty
  | .timerFired => .tmr | .timerMissed => .tmr
  | .shedStep => .rsv | .restoreStep => .rsv | .bandChange => .rsv | .accountRefilled => .rsv
  | .storeDone => .sto | .storeDefaulted => .sto | .storeCheck => .sto
  | .lost => .ntq

/-- A notice combined into the record of its kind and source: the count goes up, the detail and value become the new
ones, except that a LOST record sums its value (R166, R167). -/
def Record.combine (r : Record) (detail : Nat) (value : Int) : Record :=
  { r with
    count := satSucc 255 r.count
    detail := detail
    value := if r.kind = .lost then min 32767 (r.value + value) else value }

/-- The record has the kind and source of a notice. -/
def Record.same (r : Record) (k : Notice) : Bool := r.kind == k && r.source == noticeSource k

/-- R166: a posted notice is combined with the record of its kind and source, appended, or lost. -/
def Ntq.post (q : Ntq) (now : Nat) (k : Notice) (detail : Nat) (value : Int) : Ntq :=
  if q.records.any (·.same k) then
    { q with records := q.records.map fun r => if r.same k then r.combine detail value else r }
  else if q.records.length < 32 then
    { q with records := q.records ++ [⟨k, noticeSource k, detail, value, 1, now⟩] }
  else { q with lost := satSucc 255 q.lost }

/-- A block posts a notice. -/
def post (k : Notice) (detail : Nat) (value : Int) (s : State) : State :=
  { s with ntq := s.ntq.post s.tmr.seconds k detail value }

/-! ### Demands (R18) -/

/-- R18 on one record. -/
def ChanRec.demanded (r : ChanRec) (m : Mode) (v : Option Nat) : ChanRec :=
  match m with
  | .off =>
    { r with
      mode := .off
      demand := none
      computed := 0
      applied := 0
      saturated := false
      state := if r.state = .driving then .off else r.state }
  | m =>
    { r with
      mode := m
      demand := v
      computed := if m = .duty then v.getD 0 else r.computed
      saturated := if m = .duty then false else r.saturated
      state := if r.state = .off ∧ r.chans ≠ [] then .driving else r.state }

/-- R21, R23 on the stroke fields: an OFF demand cuts a pulse; a demand from OFF to STROKE clears the miss count, the
stroke fault flag and the last outcome. -/
def Stroke.demanded (k : Stroke) (old new : Mode) : Stroke :=
  match new with
  | .off => { k with pulse := none, onTime := 0 }
  | .stroke => if old = .off then { k with miss := 0, fault := false, last := none } else k
  | .duty => k
  | .compensated => k

/-- An owner's demand for a consumer (R18). -/
def demand (c : Consumer) (m : Mode) (v : Option Nat) (s : State) : State :=
  { s with
    out :=
      { s.out with
        recs := s.out.recs.set c ((s.chan c).demanded m v)
        stroke := if c = .pump then s.out.stroke.demanded (s.chan .pump).mode m else s.out.stroke } }

/-! ### The part write of block 3 (R65, R176) -/

/-- The code of a lockout cause: 1 to 10 (Table 41), −1 for none (log 12). -/
def causeCode : Option Cause → Int
  | none => -1
  | some .noFlame => 1 | some .flameOut => 2 | some .overheat => 3 | some .pump => 4 | some .fan => 5
  | some .sensor => 6 | some .purgeHot => 7 | some .supplyLost => 8 | some .thermal => 9 | some .store => 10

/-- The cause of a code. -/
def causeOf (n : Int) : Option Cause :=
  if n = 1 then some .noFlame else if n = 2 then some .flameOut else if n = 3 then some .overheat
  else if n = 4 then some .pump else if n = 5 then some .fan else if n = 6 then some .sensor
  else if n = 7 then some .purgeHot else if n = 8 then some .supplyLost else if n = 9 then some .thermal
  else if n = 10 then some .store else none

/-- The lockout record as the fields of block 3 (R65). -/
def lockoutData (l : Lockout) : BlockData :=
  ⟨[if l.flag then 1 else 0, causeCode l.cause, l.count, l.starts, l.restarted], [], [], []⟩

/-- The fields of block 3 as a lockout record. -/
def lockoutOf (d : BlockData) : Lockout :=
  ⟨fieldAt d.nums 0 != 0, causeOf (fieldAt d.nums 1), (fieldAt d.nums 2).toNat, (fieldAt d.nums 3).toNat,
    (fieldAt d.nums 4).toNat⟩

/-- The store begins a write (R175, R176). -/
def Store.begin (k : Store) (b : Block) (part : Bool) (d : BlockData) : Store :=
  { k with activity := .write ⟨b, part, d, .writing, false, false⟩ }

/-- R176: the heater requests a write of block 3. It starts at once with the store idle; otherwise it is pended, merging
with one already pended, and the stored block 3 is marked invalid in the same event. -/
def requestPartWrite (s : State) : State :=
  let d := lockoutData s.htr.lockout
  let k := { s.sto with working := s.sto.working.set .heaterState d }
  match k.activity with
  | .idle => { s with sto := k.begin .heaterState true d }
  | .write _ | .check _ =>
    { s with
      sto :=
        { k with
          pendingPart := true
          stored := k.stored.set .heaterState { k.stored.heaterState with marked := true } } }

end Sys2Proof.Machine
end

