-- ==== Sys2Proof/Machine/Operands.lean ====
section
/-! DEFINITION. The fields of payloads: reading them from the bytes of a request, and building reply payloads (Section
0.6.4, R161). -/

namespace Sys2Proof.Machine

/-! ### Reading a payload -/

/-- The byte at place `i`, 0 beyond the end. -/
def byteAt (p : List Byte) (i : Nat) : Byte := (p[i]?).getD 0

/-- An unsigned byte. -/
def u8At (p : List Byte) (i : Nat) : Nat := (byteAt p i).toNat

/-- Two bytes, little-endian, unsigned. -/
def u16At (p : List Byte) (i : Nat) : Nat := u8At p i + 256 * u8At p (i + 1)

/-- Four bytes, little-endian, unsigned. -/
def u32At (p : List Byte) (i : Nat) : Nat := u16At p i + 65536 * u16At p (i + 2)

/-- Two bytes, little-endian, signed. -/
def i16At (p : List Byte) (i : Nat) : Int := if u16At p i < 32768 then u16At p i else (u16At p i : Int) - 65536

/-- Four bytes, little-endian, signed. -/
def i32At (p : List Byte) (i : Nat) : Int :=
  if u32At p i < 2147483648 then u32At p i else (u32At p i : Int) - 4294967296

/-- Run minutes: 0, or 10 to 720 (R39, R130). -/
def runMinutes (n : Nat) : Nat := if n = 0 then 0 else clampNat 10 720 n

/-! ### Building a reply payload -/

/-- An unsigned field of `n` bytes; a value that does not fit has no stated encoding (log 9). -/
def encU (free n v : Nat) : List Byte :=
  if v < 256 ^ n then natBytes n v else natBytes n (Config.overflowField free n v)

/-- A signed field of `n` bytes; a value that does not fit has no stated encoding (log 9). -/
def encI (free n : Nat) (v : Int) : List Byte :=
  if -(128 * 256 ^ (n - 1) : Int) ≤ v ∧ v < 128 * 256 ^ (n - 1) then natBytes n (v % 256 ^ n).toNat
  else natBytes n (Config.overflowField free n v)

/-- A flag: one byte, 0 clear and 1 set (R161). -/
def encFlag (b : Bool) : List Byte := [if b then 1 else 0]

/-- A sensor's validity: an enumerated field, by its place in the list of R7, VALID 0 and FAULT 1 (R161; log 11). -/
def encValidity (valid : Bool) : List Byte := [if valid then 0 else 1]

/-- A byte with the given bits, bit 0 first. -/
def encBits (bits : List Bool) : Nat := bits.foldr (fun b n => (if b then 1 else 0) + 2 * n) 0

/-- A byte made of bits. -/
def encBitByte (bits : List Bool) : List Byte := natBytes 1 (encBits bits)

/-! ### Results and answers (Table 92) -/

/-- The result codes of Table 92. -/
inductive Result where
  | ok | okClamped | unknownKind | badLength | badField | notReady | busy | locked | notFitted | wrongState | noRoom
  | clockInvalid | order
  deriving DecidableEq, Repr

/-- The numbers of Table 92. -/
def resultCode : Result → Nat
  | .ok => 0 | .okClamped => 1 | .unknownKind => 2 | .badLength => 3 | .badField => 4 | .notReady => 5 | .busy => 6
  | .locked => 7 | .notFitted => 8 | .wrongState => 9 | .noRoom => 10 | .clockInvalid => 11 | .order => 12

/-- OK, or OK_CLAMPED where a value was brought to its range. -/
def accepted (clamped : Bool) : Result := if clamped then .okClamped else .ok

/-- What an owner returns to the link interface (R161). -/
structure Answer where
  state : State
  result : Result
  payload : List Byte

/-- A refusal: no state changes and the reply has no payload (Section 0.6.3, R162). -/
def refuse (r : Result) (s : State) : Answer := ⟨s, r, []⟩

/-- An acceptance with no payload. -/
def done (r : Result) (s : State) : Answer := ⟨s, r, []⟩

/-- The checks every request with a payload of fixed length `n` that settling does not serve begins with:
BAD_LENGTH, then the owner's enumerated values, then NOT_READY. -/
def checked (n : Nat) (p : List Byte) (fieldsOk : Bool) (s : State) (f : State → Answer) : Answer :=
  if p.length ≠ n then refuse .badLength s
  else if !fieldsOk then refuse .badField s
  else if s.settling then refuse .notReady s
  else f s

end Sys2Proof.Machine
end

