-- ==== Sys2Proof/Machine/Flags.lean ====
section
/-! DEFINITION. The views that the host sees of the whole part: the fault classes and NFLT (R169), NSTA (R170) and the
summary word (R163), and the stretch timers that follow a fault condition (R169). -/

namespace Sys2Proof.Machine

/-- A record of a fitted consumer is TRIPPED or LATCHED. -/
def ChanRec.faulted (r : ChanRec) : Bool := !r.chans.isEmpty && (r.state == .tripped || r.state == .latched)

/-- A record of a fitted consumer has its open-load flag set. -/
def ChanRec.opened (r : ChanRec) : Bool := !r.chans.isEmpty && r.openLoad

/-- Some record satisfies `f`. -/
def anyRec (s : State) (f : ChanRec → Bool) : Bool := allConsumers.any fun c => f (s.chan c)

/-- The SUPPLY condition: the band is CRITICAL or CUTOFF, or the supply floor hold is active (Table 99). -/
def supplyCondition (s : State) : Bool := s.rsv.band == .critical || s.rsv.band == .cutoff || s.out.floorHold

/-- A sensor is in FAULT (Table 99); an unjudged sensor is not. -/
def anySensorFault (m : Meas) : Bool :=
  m.tsc.validity == .fault || m.tsx.validity == .fault || m.tsf.validity == .fault

/-- The seven fault classes in the order of Table 99, each active or not (R169). -/
def faultClasses (s : State) : List Bool :=
  [anyRec s ChanRec.faulted, anyRec s ChanRec.opened, supplyCondition s || s.ntq.supplyTimer.isSome,
   s.out.thermalHold || s.ntq.thermalTimer.isSome, s.htr.state == .lockout || s.out.stroke.fault,
   anySensorFault s.meas, s.ntq.linkTimer.isSome]

/-- Some class of the list is active and not masked, the first standing at place `i`. -/
def unmaskedActive (w : Working) : List Bool → Nat → Bool
  | [], _ => false
  | a :: rest, i => (a && !w.mask i) || unmaskedActive w rest (i + 1)

/-- The SIGNALS block has been loaded since the reset (R172). -/
def signalsLoaded (s : State) : Bool := s.sys.phase != .inReset && decide (9 ≤ s.sys.loads)

/-- NFLT is asserted, that is pulled low (R169, R172). -/
def nflt (s : State) : Bool := signalsLoaded s && unmaskedActive s.set (faultClasses s) 0

/-- An alert part plays on any light or chime consumer. -/
def alertPlaying (s : State) : Bool :=
  s.lgt.recs.lower.playing.isSome || s.lgt.recs.upper.playing.isSome || s.lgt.recs.chime.playing.isSome

/-- The selected NSTA function is active (Table 100). -/
def nstaActive (s : State) : Bool :=
  match s.set.nstaFunction with
  | 0 => !s.ntq.records.isEmpty
  | 1 => decide (s.set.nstaThreshold ≤ s.ntq.records.length)
  | 2 => s.htr.flame
  | 3 => decide (0 < ladderLevel s.rsv)
  | 4 => s.duty.session.isSome
  | _ => alertPlaying s

/-- NSTA is pulled low (R170, R172). -/
def nstaLow (s : State) : Bool := signalsLoaded s && (nstaActive s != s.set.nstaActiveHigh)

/-- The band codes of Table 84. -/
def bandCode : Band → Nat
  | .normal => 0 | .low => 1 | .critical => 2 | .cutoff => 3

/-- Any of the four drive and daily warning latches is set (R113). -/
def driveWarn (d : Duty) : Bool := d.cdPre || d.cdLimit || d.ddPre || d.ddLimit

/-- The store has a write or a check in flight (R175, R177). -/
def storeBusy (k : Store) : Bool :=
  match k.activity with
  | .idle => false | .write _ => true | .check _ => true

/-- The bits of the summary word, bit 0 first (Table 91). -/
def summaryBits (s : State) : List Bool :=
  [s.settling, nflt s, !s.ntq.records.isEmpty, decide (0 < s.ntq.lost), s.htr.flame, s.htr.state == .lockout,
   s.duty.session.isSome, driveWarn s.duty, decide (0 < ladderLevel s.rsv),
   s.rsv.band == .low || s.rsv.band == .cutoff, s.rsv.band == .critical || s.rsv.band == .cutoff,
   s.tmr.valid, storeBusy s.sto, s.sto.lock, s.duty.historyIncomplete, s.rsv.cutoffHold]

/-- The summary word (R163). -/
def summary (s : State) : Nat := encBits (summaryBits s)

/-! ### Admission (R152) -/

/-- The reserve account grants heater admission (R152). -/
def heaterAdmission (s : State) : Bool :=
  decide (s.set.startReserve ≤ remaining s.rsv) && !stepApplied s.rsv .heater .shed && s.rsv.band == .normal

/-- The reserve account grants compressor admission (R152). -/
def compressorAdmission (s : State) : Bool :=
  !stepApplied s.rsv .compressor .shed && s.rsv.band != .critical && s.rsv.band != .cutoff

/-! ### Stretch timers (R169) -/

/-- The timer of a stretched class after an event: a condition that holds drops it; a condition that the event ended
sets it to the stretch, a stretch of 0 ending the class at once; otherwise it stays. -/
def stretched (stretch : Nat) (was is : Bool) (timer : Option Nat) : Option Nat :=
  if is then none
  else if was then (if stretch = 0 then none else some (1000 * stretch))
  else timer

/-- The two stretch timers after an event that led from `before` to `s`. -/
def withStretch (before s : State) : State :=
  { s with
    ntq :=
      { s.ntq with
        supplyTimer := stretched s.set.supplyStretch (supplyCondition before) (supplyCondition s) s.ntq.supplyTimer
        thermalTimer :=
          stretched s.set.thermalStretch before.out.thermalHold s.out.thermalHold s.ntq.thermalTimer } }

/-- STRETCH_EXPIRY (R169): a stretch timer that has run out ends its class. -/
def stretchExpired (cls : Stretch) (s : State) : State :=
  match cls with
  | .supply =>
    whenDue (s.ntq.supplyTimer == some 0) s fun s => { s with ntq := { s.ntq with supplyTimer := none } }
  | .thermal =>
    whenDue (s.ntq.thermalTimer == some 0) s fun s => { s with ntq := { s.ntq with thermalTimer := none } }

/-- Meaning of STRETCH_EXPIRY. -/
def execStretchExpiry (cls : Stretch) (s : State) : Host.Outcome State Fault Refusal := s.live (stretchExpired cls)

/-- Meaning of LINK_TIMER_EXPIRY (R169): a LINK timer that has run out ends the LINK class. -/
def execLinkTimerExpiry (s : State) : Host.Outcome State Fault Refusal :=
  s.live fun s =>
    whenDue (s.ntq.linkTimer == some 0) s fun s => { s with ntq := { s.ntq with linkTimer := none } }

/-- A timer in ms counts down by 10 at a sample set, to 0. -/
def countDown (t : Option Nat) : Option Nat := t.map (· - 10)

/-- The timers of the notice queue count down at a sample set (R169). -/
def tickNtq (s : State) : State :=
  { s with
    ntq :=
      { s.ntq with
        supplyTimer := countDown s.ntq.supplyTimer
        thermalTimer := countDown s.ntq.thermalTimer
        linkTimer := countDown s.ntq.linkTimer } }

end Sys2Proof.Machine
end

