-- ==== Sys2Proof/Machine/Lights.lean ====
section
/-! DEFINITION. The light unit (chapter 5): levels, ramps, programs, alert parts, the wake record, and the degrade,
shed and cutoff reactions. -/

namespace Sys2Proof.Machine

/-! ### Sources, levels and demands (R84, R85) -/

/-- The sources of Table 51. -/
inductive LightSource where
  | steady | program | alert
  deriving DecidableEq, Repr

/-- The source a consumer shows: ALERT above PROGRAM above STEADY (R84). -/
def LightRec.source (r : LightRec) : LightSource :=
  if r.playing.isSome then .alert else if r.active.isSome then .program else .steady

/-- The applied level of R84. -/
def appliedLevel (cutoff : Bool) (l : Light) (r : LightRec) : Nat :=
  if cutoff then (if l = .chime ∧ r.playing.isSome then r.present else 0)
  else if r.shed then 0
  else if r.degraded then min r.present 30
  else r.present

/-- The demand of an applied level (R84): OFF at 0, otherwise DUTY at (a × a + 5) div 10. -/
def levelDemand (a : Nat) : Mode × Option Nat := if a = 0 then (.off, none) else (.duty, some ((a * a + 5) / 10))

/-- The demand of a light's applied level is written. -/
def writeLevel (l : Light) (s : State) : State :=
  demand (lightConsumer l) (levelDemand (s.light l).applied).1 (levelDemand (s.light l).applied).2 s

/-- R84: the applied level is formed from the present level, and a demand is written when it has changed. -/
def refresh (l : Light) (s : State) : State :=
  let a := appliedLevel s.lgt.cutoffHold l (s.light l)
  if a = (s.light l).applied then s else writeLevel l (s.setLight l { s.light l with applied := a })

/-- The elapsed time of a ramp: 20 ms at every second sample set (R85). -/
def Ramp.elapsed (r : Ramp) : Nat := r.sets / 2 * 20

/-- The level of a ramp (R85). -/
def Ramp.level (r : Ramp) : Nat :=
  if r.time ≤ r.elapsed then r.target
  else ((r.start : Int) + (((r.target : Int) - r.start) * r.elapsed).tdiv r.time).toNat

/-- A ramp one sample set later. -/
def Ramp.tick (r : Ramp) : Ramp := { r with sets := r.sets + 1 }

/-- The ramp's elapsed time has reached its ramp time. -/
def Ramp.over (r : Ramp) : Bool := decide (r.time ≤ r.elapsed)

/-! ### Steady levels (R86, R87) -/

/-- A new steady level with a ramp time in ms: a nonzero level becomes the last nonzero level, and with source STEADY a
steady ramp starts from the present level (R85, R86). -/
def LightRec.withSteady (r : LightRec) (level ramp : Nat) : LightRec :=
  let r := { r with steady := level, lastNonzero := if level = 0 then r.lastNonzero else level }
  match r.source with
  | .steady =>
    if ramp = 0 then { r with ramp := none, present := level }
    else { r with ramp := some ⟨r.present, level, ramp, 0⟩ }
  | .program => r
  | .alert => r

/-- A return to STEADY shows the steady level at once (R85). -/
def LightRec.toSteady (r : LightRec) : LightRec := { r with ramp := none, present := r.steady }

/-- SET LIGHT once accepted, and the LIGHT_LEVEL timer action (R86). -/
def setSteady (l : Light) (level ramp : Nat) (s : State) : State :=
  s.setLight l ((s.light l).withSteady level ramp)

/-! ### Programs (R88 to R92) -/

/-- The end reasons of Table 56. -/
inductive EndReason where
  | completed | cancelled | replaced | preempted | shed | fault
  deriving DecidableEq, Repr

/-- The codes of Table 56. -/
def endReasonCode : EndReason → Nat
  | .completed => 0 | .cancelled => 1 | .replaced => 2 | .preempted => 3 | .shed => 4 | .fault => 5

/-- The notice of a program's end (R91). -/
def postEnd (l : Light) (why : EndReason) (p : Program) (s : State) : State :=
  post .programEnd (endReasonCode why) (256 * (consumerNumber (lightConsumer l) : Int) + p.tag) s

/-- Step `n` (from 1) of run `run` begins from the present level (R90). -/
def LightRec.beginStep (r : LightRec) (p : Program) (run n : Nat) : LightRec :=
  let st := (p.steps[n - 1]?).getD ⟨r.present, 0, 0⟩
  if st.ramp = 0 then
    { r with ramp := none, present := st.level, active := some ⟨p, run, n, .hold 0, 0⟩ }
  else
    { r with ramp := none, active := some ⟨p, run, n, .ramp ⟨r.present, st.level, st.ramp, 0⟩, 0⟩ }

/-- After the active program or the playing part is gone: the first waiting program starts; if none waits, the source
becomes STEADY (R91, R95). -/
def LightRec.resume (r : LightRec) : LightRec :=
  match r.waiting with
  | p :: rest => { r with waiting := rest }.beginStep p 1 1
  | [] => r.toSteady

/-- All programs of a consumer end, active first, each with a reason (R91); the source is settled by the caller. -/
def endPrograms (l : Light) (why : EndReason) (s : State) : State :=
  let r := s.light l
  let ps := (r.active.map (·.prog)).toList ++ r.waiting
  ps.foldl (fun s p => postEnd l why p s) (s.setLight l { r with active := none, waiting := [] })

/-- A consumer without program or playing part shows its steady level at once. -/
def showSteady (l : Light) (s : State) : State :=
  if (s.light l).source = .steady then s.setLight l (s.light l).toSteady else s

/-- The hold time of the active step in ms. -/
def Active.holdTime (a : Active) : Nat := ((a.prog.steps[a.step - 1]?).getD ⟨0, 0, 0⟩).hold

/-- The active step ends at this sample set: its hold time has passed and it has taken a set (R90). -/
def Active.stepOver (a : Active) : Bool :=
  match a.phase with
  | .ramp _ => false
  | .hold sets => decide (a.holdTime ≤ 10 * sets) && decide (1 ≤ a.age)

/-- The active program ends COMPLETED (R91): the first waiting program starts, or the final level becomes the steady
level. -/
def completeProgram (l : Light) (p : Program) (s : State) : State :=
  let r := { s.light l with active := none }
  let s := postEnd l .completed p s
  match r.waiting with
  | _ :: _ => s.setLight l r.resume
  | [] =>
    s.setLight l
      { r with steady := r.present, lastNonzero := if r.present = 0 then r.lastNonzero else r.present }

/-- R90: the next step, the next run, or the end of the program. -/
def stepEnd (l : Light) (a : Active) (s : State) : State :=
  if a.step < a.prog.steps.length then
    s.setLight l ((s.light l).beginStep a.prog a.run (a.step + 1))
  else if a.prog.runs = 0 ∨ a.run < a.prog.runs then
    s.setLight l ((s.light l).beginStep a.prog (a.run + 1) 1)
  else completeProgram l a.prog s

/-- Meaning of PROGRAM_STEP_END. -/
def execProgramStepEnd (l : Light) (s : State) : Host.Outcome State Fault Refusal :=
  s.live fun s =>
    match (s.light l).playing, (s.light l).active with
    | none, some a => whenDue a.stepOver s fun s => refresh l (stepEnd l a s)
    | _, _ => s

/-- Meaning of LIGHT_RAMP_END (R85): the ramp of the source shown has run its time, and the level is its target. -/
def execLightRampEnd (l : Light) (s : State) : Host.Outcome State Fault Refusal :=
  s.live fun s =>
    let r := s.light l
    match r.playing, r.active, r.ramp with
    | some ⟨pat, n, some rp⟩, _, _ =>
      whenDue rp.over s fun s =>
        refresh l (s.setLight l { r with playing := some ⟨pat, n, none⟩, present := rp.target })
    | some ⟨_, _, none⟩, _, _ => s
    | none, some a, _ =>
      match a.phase with
      | .ramp rp =>
        whenDue rp.over s fun s =>
          refresh l (s.setLight l { r with active := some { a with phase := .hold 0 }, present := rp.target })
      | .hold _ => s
    | none, none, some rp =>
      whenDue rp.over s fun s => refresh l (s.setLight l { r with ramp := none, present := rp.target })
    | none, none, none => s

/-! ### Alert patterns (R93) -/

/-- The classes of Table 57, INFO below WARNING below URGENT. -/
inductive AlertClass where
  | info | warning | urgent
  deriving DecidableEq, Repr

/-- The class of a pattern (Table 57). -/
def patternClass : Pattern → AlertClass
  | .wake => .info | .drivePrewarn => .info | .dailyPrewarn => .info | .reserveStep => .info
  | .driveLimit => .warning | .dailyLimit => .warning | .restShort => .warning
  | .heaterLockout => .urgent | .cutoff => .urgent

/-- The rank of a class. -/
def classRank : AlertClass → Nat
  | .info => 0 | .warning => 1 | .urgent => 2

/-- The number of beeps of a chime part that is made of beeps (Table 57). -/
def beeps : Pattern → Nat
  | .wake => 3 | .drivePrewarn => 2 | .dailyPrewarn => 2 | .driveLimit => 5 | .dailyLimit => 5 | .reserveStep => 1
  | .restShort => 0 | .heaterLockout => 0 | .cutoff => 0

/-- The duration of a part in ms (Table 57); the light part of WAKE has none of its own (R96). -/
def partDuration (pat : Pattern) (l : Light) : Nat :=
  match l with
  | .chime =>
    match pat with
    | .restShort => 1000
    | .heaterLockout => 4500
    | .cutoff => 4500
    | _ => 300 * beeps pat
  | .lower => 1800
  | .upper => 0

/-- The level of a part `t` ms after its start, before its end (R93). -/
def partLevel (pat : Pattern) (l : Light) (t : Nat) : Nat :=
  match l with
  | .chime =>
    match pat with
    | .restShort => 100
    | .heaterLockout => if t % 1500 < 1000 then 100 else 0
    | .cutoff => if t % 1500 < 1000 then 100 else 0
    | _ => if t % 300 < 150 then 100 else 0
  | .lower => if t % 600 < 300 then 100 else 0
  | .upper => 0

/-- The part is the light part of WAKE (R96). -/
def isWakeLight (pat : Pattern) (l : Light) : Bool := pat == .wake && l == .lower

/-! ### Alert parts in their slots (R94, R95) -/

/-- The outcomes of Table 58. -/
inductive PartOutcome where
  | completed | replaced | displaced | cancelled | disabled | skipped
  deriving DecidableEq, Repr

/-- The codes of Table 58. -/
def partOutcomeCode : PartOutcome → Nat
  | .completed => 0 | .replaced => 1 | .displaced => 2 | .cancelled => 3 | .disabled => 4 | .skipped => 5

/-- A part leaves the slots, or is not placed: ALERT_PLAYED is posted (R95), and the chime part of WAKE sets the
chime-done flag (R96). -/
def partLeaves (pat : Pattern) (l : Light) (out : PartOutcome) (s : State) : State :=
  let s := post .alertPlayed (partOutcomeCode out)
    (16 * (patternNumber pat : Int) + consumerNumber (lightConsumer l)) s
  if pat = .wake ∧ l = .chime then { s with lgt := { s.lgt with chimeDone := true } } else s

/-- The ramp of a part that starts: the light part of WAKE ramps from 0 to 60 over Tw (R96). -/
def partRamp (pat : Pattern) (l : Light) (s : State) : Option Ramp :=
  if isWakeLight pat l then some ⟨0, 60, s.lgt.wakeRamp, 0⟩ else none

/-- The level of a part at its start. -/
def firstLevel (pat : Pattern) (l : Light) : Nat := if isWakeLight pat l then 0 else partLevel pat l 0

/-- A part starts to play (R95): the active program ends PREEMPTED, a steady ramp is dropped, the source becomes
ALERT. -/
def startPart (pat : Pattern) (l : Light) (s : State) : State :=
  let r := s.light l
  let s' := s.setLight l
    { r with
      active := none
      ramp := none
      playing := some ⟨pat, 0, partRamp pat l s⟩
      present := firstLevel pat l }
  match r.active with
  | some a => postEnd l .preempted a.prog s'
  | none => s'

/-- The class of a pattern is disabled in the LIGHTS block (check 1 of R94). -/
def classDisabled (s : State) (pat : Pattern) : Bool :=
  match patternClass pat with
  | .info => !s.set.infoEnabled
  | .warning => !s.set.warningEnabled
  | .urgent => false

/-- R94: a part of a requested alert is placed on its consumer by the first of eight checks that applies. -/
def placePart (pat : Pattern) (l : Light) (s : State) : State :=
  let r := s.light l
  if classDisabled s pat then partLeaves pat l .disabled s
  else if !fitted s (lightConsumer l) || (l != .chime && r.shed) then partLeaves pat l .skipped s
  else if s.lgt.cutoffHold && (l != .chime || patternClass pat != .urgent) then partLeaves pat l .skipped s
  else
    match r.playing with
    | none => startPart pat l s
    | some old =>
      if classRank (patternClass old.pattern) < classRank (patternClass pat) then
        partLeaves old.pattern l .replaced (startPart pat l s)
      else
        match r.queued with
        | none => s.setLight l { r with queued := some pat }
        | some q =>
          if classRank (patternClass q) ≤ classRank (patternClass pat) then
            partLeaves q l .displaced (s.setLight l { r with queued := some pat })
          else partLeaves pat l .displaced s

/-- A consumer goes on after its playing part is gone: the pending part plays at once, or the first waiting program
starts, or the source becomes STEADY (R95). -/
def afterPart (l : Light) (s : State) : State :=
  let r := { s.light l with playing := none }
  match r.queued with
  | some q => startPart q l (s.setLight l { r with queued := none })
  | none => s.setLight l r.resume

/-- The playing part has reached its end (R93, R96). The light part of WAKE ends at a sample set: a chime-done flag that was
set between two sets counts from the next one on (log 72). -/
def partOver (p : Part) (l : Light) (s : State) : Bool :=
  if isWakeLight p.pattern l then p.ramp.isNone && s.lgt.chimeDone && !s.lgt.chimeFresh
  else decide (partDuration p.pattern l ≤ 10 * p.sets)

/-- R96: the light part of WAKE leaves the light on at 60 if nothing is pending or waiting. -/
def wakeStays (p : Part) (l : Light) (r : LightRec) : LightRec :=
  if isWakeLight p.pattern l && r.queued.isNone && r.waiting.isEmpty then { r with steady := 60, lastNonzero := 60 }
  else r

/-- A part ends COMPLETED (R95, R96). -/
def partEnd (p : Part) (l : Light) (s : State) : State :=
  refresh l (afterPart l (partLeaves p.pattern l .completed (s.setLight l (wakeStays p l (s.light l)))))

/-- Meaning of ALERT_PART_END. -/
def execAlertPartEnd (l : Light) (s : State) : Host.Outcome State Fault Refusal :=
  s.live fun s =>
    match (s.light l).playing with
    | some p => whenDue (partOver p l s) s (partEnd p l)
    | none => s

/-- A block requests an alert other than WAKE: its parts are placed independently, CHIME first (R93, log 16). -/
def requestAlert (pat : Pattern) (s : State) : State :=
  if pat = .heaterLockout then placePart pat .lower (placePart pat .chime s) else placePart pat .chime s

/-! ### WAKE (R96) -/

/-- The WAKE part is withdrawn from one consumer's slots, with outcome CANCELLED. -/
def withdrawPart (l : Light) (s : State) : State :=
  let s1 :=
    if (s.light l).queued = some .wake then
      partLeaves .wake l .cancelled (s.setLight l { s.light l with queued := none })
    else s
  match (s1.light l).playing with
  | some p => if p.pattern = .wake then afterPart l (partLeaves .wake l .cancelled s1) else s1
  | none => s1

/-- WAKE is withdrawn (R96): the chime timer stops and both parts leave the slots. -/
def withdrawWake (s : State) : State :=
  withdrawPart .chime (withdrawPart .lower { s with lgt := { s.lgt with wakeTimer := none } })

/-- A WAKE request with a lead in ms (R96): an earlier WAKE is withdrawn, the wake record is set, and the light part is
placed. -/
def requestWake (lead : Nat) (s : State) : State :=
  let s := withdrawWake s
  placePart .wake .lower
    { s with
      lgt := { s.lgt with
        wakeRamp := max lead 60000, wakeTimer := some (max lead 60000), chimeDone := false, chimeFresh := false } }

/-- Meaning of WAKE_CHIME_TIMER_EXPIRY (R96): the chime part is placed. -/
def execWakeChimeTimerExpiry (s : State) : Host.Outcome State Fault Refusal :=
  s.live fun s =>
    whenDue (s.lgt.wakeTimer == some 0) s fun s =>
      placePart .wake .chime { s with lgt := { s.lgt with wakeTimer := none } }

/-- The request of a pattern by a timer entry: WAKE with a lead of 60 000 ms (Table 76). -/
def requestPattern (pat : Pattern) (s : State) : State :=
  if pat = .wake then requestWake 60000 s else requestAlert pat s

/-- A pattern is requested at an event of the seconds, which comes between two sample sets: a chime-done flag that the request
sets is found by the next set (R96, log 72). -/
def requestBetween (pat : Pattern) (s : State) : State :=
  let t := requestPattern pat s
  { t with lgt := { t.lgt with chimeFresh := t.lgt.chimeFresh || (t.lgt.chimeDone && !s.lgt.chimeDone) } }

/-! ### Degrade, shed and cutoff (R97 to R99) -/

/-- R97: the DEGRADE step is applied or restored; the cap acts in the event. -/
def lightDegrade (l : Light) (on : Bool) (s : State) : State :=
  refresh l (s.setLight l { s.light l with degraded := on })

/-- The playing and the pending part of a consumer leave with outcome SKIPPED where `f` holds of their pattern. -/
def skipParts (l : Light) (f : Pattern → Bool) (s : State) : State :=
  let s1 :=
    match (s.light l).playing with
    | some p => if f p.pattern then partLeaves p.pattern l .skipped (s.setLight l { s.light l with playing := none }) else s
    | none => s
  match (s1.light l).queued with
  | some q => if f q then partLeaves q l .skipped (s1.setLight l { s1.light l with queued := none }) else s1
  | none => s1

/-- R98: the SHED step is applied. -/
def lightShed (l : Light) (s : State) : State :=
  let s := skipParts l (fun _ => true) (endPrograms l .shed s)
  refresh l (s.setLight l { (s.light l).toSteady with shed := true })

/-- R98: the SHED step is restored; the applied level becomes the steady level, capped while degraded. -/
def lightUnshed (l : Light) (s : State) : State :=
  let r := { s.light l with shed := false }
  refresh l (s.setLight l (if r.source = .steady then r.toSteady else r))

/-- R99 on one consumer: programs end, parts below URGENT and every part on a bunk light leave, a steady ramp is
dropped. -/
def cutoffLight (l : Light) (s : State) : State :=
  showSteady l (skipParts l (fun pat => l != .chime || patternClass pat != .urgent) (endPrograms l .shed s))

/-- R99: the cutoff hold is set. -/
def cutoffSet (s : State) : State :=
  let s := cutoffLight .chime (cutoffLight .upper (cutoffLight .lower s))
  let s := { s with lgt := { s.lgt with cutoffHold := true } }
  refresh .chime (refresh .upper (refresh .lower s))

/-- R99: the cutoff hold is cleared; each consumer shows its source again at the next set (R84). -/
def cutoffCleared (s : State) : State := { s with lgt := { s.lgt with cutoffHold := false } }

/-! ### Reports of the output stage (R100) -/

/-- A latch of a light's channel: its programs end with reason FAULT, and after an active one the source becomes STEADY
(R91). A steady ramp and an alert part go on. -/
def lightLatched (l : Light) (s : State) : State :=
  if (s.light l).active.isSome then showSteady l (endPrograms l .fault s) else endPrograms l .fault s

/-! ### Panel keys (R87) -/

/-- The base of R87: the present level, or with source ALERT the steady level. -/
def keyBase (r : LightRec) : Nat := if r.source = .alert then r.steady else r.present

/-- The driver's press takes the lamp over with a new steady level (R87). A lamp that is shed or under the cutoff hold
takes the stored level only, and its present level follows it at once without a ramp (log 50). -/
def takeOver (l : Light) (level ramp : Nat) (s : State) : State :=
  let shown := (s.light l).present
  let s := endPrograms l .cancelled s
  let r := s.light l
  if r.shed || s.lgt.cutoffHold then showSteady l (setSteady l level 0 s)
  else s.setLight l ({ r with present := shown }.withSteady level ramp)

/-- The toggle of KEY0 (R87). -/
def toggleLamp (l : Light) (s : State) : State :=
  let r := s.light l
  takeOver l (if keyBase r = 0 then r.lastNonzero else 0) 500 s

/-- The press classes of R13. -/
inductive Press where
  | short | long | repeated
  deriving DecidableEq, Repr

/-- Table 54: what a classified press of KEY0, KEY1 or KEY2 does. -/
def panelKey (k : Key) (p : Press) (s : State) : State :=
  let b := keyBase (s.light .lower)
  let lamp (l : Light) (f : State → State) : State := if fitted s (lightConsumer l) then f s else s
  match k, p with
  | .key0, .short => lamp .lower (toggleLamp .lower)
  | .key0, .long => lamp .upper (toggleLamp .upper)
  | .key1, .short => lamp .lower (takeOver .lower (min 100 (b + 10)) 0)
  | .key1, .repeated => lamp .lower (takeOver .lower (min 100 (b + 1)) 0)
  | .key2, .short => lamp .lower (takeOver .lower (b - 10) 0)
  | .key2, .repeated => lamp .lower (takeOver .lower (b - 1) 0)
  | _, _ => s

/-! ### The sample set (R84, R85, R90, R93) -/

/-- The timings and the present level of one record, one sample set later. -/
def LightRec.tick (l : Light) (r : LightRec) : LightRec :=
  match r.playing, r.active, r.ramp with
  | some p, _, _ =>
    let rp := p.ramp.map Ramp.tick
    let t := 10 * (p.sets + 1)
    { r with
      playing := some ⟨p.pattern, p.sets + 1, rp⟩
      present :=
        if isWakeLight p.pattern l then (rp.map Ramp.level).getD r.present
        else if t < partDuration p.pattern l then partLevel p.pattern l t else r.present }
  | none, some a, _ =>
    match a.phase with
    | .ramp rp =>
      { r with active := some { a with phase := .ramp rp.tick, age := a.age + 1 }, present := rp.tick.level }
    | .hold n => { r with active := some { a with phase := .hold (n + 1), age := a.age + 1 } }
  | none, none, some rp => { r with ramp := some rp.tick, present := rp.tick.level }
  | none, none, none => r

/-- The light unit's times and present levels at a sample set (R84); the set finds the chime-done flag as it stands (R96). -/
def lightsTick (s : State) : State :=
  let recs := s.lgt.recs
  { s with
    lgt :=
      { s.lgt with
        recs := ⟨recs.lower.tick .lower, recs.upper.tick .upper, recs.chime.tick .chime⟩
        wakeTimer := countDown s.lgt.wakeTimer
        chimeFresh := false } }

/-- The applied levels and demands of a sample set (R84). -/
def lightsRefresh (s : State) : State := refresh .chime (refresh .upper (refresh .lower s))

end Sys2Proof.Machine
end

