-- ==== Sys2Proof/Machine/Timers.lean ====
section
/-! DEFINITION. The timer unit (chapter 7) without its firing: the time of day, the timer table and its order, arming,
the changes of the clock, and the five clock and table requests. -/

namespace Sys2Proof.Machine

/-! ### Time of day (R125) -/

/-- The seconds of a week. -/
def weekSeconds : Nat := 604800

/-- The time of week in seconds (Section 7.2). -/
def Timer.timeOfWeek (t : Timer) : Nat := t.minute * 60 + t.second

/-- The time of day one second later; it stands while the clock is not valid (R125). -/
def Timer.advance (t : Timer) : Timer :=
  if t.valid then
    if t.second + 1 < 60 then { t with second := t.second + 1 }
    else { t with second := 0, minute := if t.minute + 1 < 10080 then t.minute + 1 else 0 }
  else t

/-! ### The table's order (R128) -/

/-- `a` stands before `b` in the table: ARMED by due time and id, then WAITING_CLOCK by id (R128). -/
def Entry.before (a b : Entry) : Bool :=
  match a.due, b.due with
  | some x, some y => decide (x < y) || (decide (x = y) && decide (a.id < b.id))
  | some _, none => true
  | none, some _ => false
  | none, none => decide (a.id < b.id)

/-- An entry takes its place in an ordered table. -/
def insertEntry (e : Entry) : List Entry → List Entry
  | [] => [e]
  | x :: rest => if e.before x then e :: x :: rest else x :: insertEntry e rest

/-- A table put in order. -/
def orderEntries (l : List Entry) : List Entry := l.foldr insertEntry []

/-- The entry with an id. -/
def Timer.find (t : Timer) (id : Nat) : Option Entry := t.table.find? fun e => e.id == id

/-- The table holds an entry with the id. -/
def Timer.holds (t : Timer) (id : Nat) : Bool := t.table.any fun e => e.id == id

/-- The entry with an id is removed, and with it its place among the entries found due. -/
def Timer.remove (t : Timer) (id : Nat) : Timer :=
  { t with table := t.table.filter fun e => e.id != id, firing := t.firing.filter fun n => n != id }

/-- An entry is added at its place, replacing one with its id. -/
def Timer.put (t : Timer) (e : Entry) : Timer :=
  let t := t.remove e.id
  { t with table := insertEntry e t.table }

/-! ### Arming (R129) -/

/-- The seconds from a time of week to the next strictly later occurrence of second 0 of a minute-of-week. -/
def secondsTo (tow minute : Nat) : Nat :=
  let d := (minute * 60 + weekSeconds - tow) % weekSeconds
  if d = 0 then weekSeconds else d

/-- The minutes-of-week of a WEEKLY entry (R129). -/
def weeklyMinutes (minute mask : Nat) : List Nat :=
  ((List.range 7).filter fun day => mask.testBit day).map fun day => day * 1440 + minute

/-- The seconds to the earliest of some occurrences, at most a week. -/
def secondsToFirst (tow : Nat) (ms : List Nat) : Nat := ms.foldl (fun d m => min d (secondsTo tow m)) weekSeconds

/-- The form waits for the wall clock (Section 7.3). -/
def Form.isClock : Form → Bool
  | .weekly _ _ => true | .onceAt _ => true | .after _ => false | .linked => false

/-- The due time that arming gives an entry at the present time, none for WAITING_CLOCK (R129). -/
def Timer.dueOf (t : Timer) (e : Entry) : Option Nat :=
  match e.form with
  | .weekly m mask =>
    if t.valid then some (t.seconds + secondsToFirst t.timeOfWeek (weeklyMinutes m mask)) else none
  | .onceAt m => if t.valid then some (t.seconds + secondsTo t.timeOfWeek m) else none
  | .after n => some (t.seconds + n)
  | .linked => e.due

/-- An entry armed, or put in WAITING_CLOCK (R129). -/
def Timer.arm (t : Timer) (e : Entry) : Entry := { e with due := t.dueOf e }

/-! ### Changes of the clock (R126, R134) -/

/-- Every entry in WAITING_CLOCK is armed (R126). -/
def Timer.armWaiting (t : Timer) : Timer :=
  { t with table := orderEntries (t.table.map fun e => if e.due.isNone then t.arm e else e) }

/-- The ONCE_AT entry is skipped by a clock change forward by `d` seconds (R134). -/
def Entry.missed (now d : Nat) (e : Entry) : Bool :=
  match e.form, e.due with
  | .onceAt _, some due => decide (due ≤ now + d)
  | _, _ => false

/-- The ids of the ONCE_AT entries that a change forward by `d` skips, in table order. -/
def Timer.missedIds (t : Timer) (d : Nat) : List Nat := (t.table.filter (Entry.missed t.seconds d)).map (·.id)

/-- The table after a change of a valid clock: skipped ONCE_AT entries are gone, every other clock-form entry is
re-armed from the new time, counter forms stand (R134). -/
def Timer.rearmClock (t : Timer) (missed : List Nat) : Timer :=
  { t with
    table :=
      orderEntries ((t.table.filter fun e => !missed.contains e.id).map fun e =>
        if e.form.isClock then t.arm e else e) }

/-- The clock set to a minute-of-week and second (R126). R134 gives no order for the TIMER_MISSED notices of several skipped
entries; they are posted in the order that the table had before the change, so the combined record shows the id of the last of
them, which is the model's choice (log 71). -/
def clockSet (minute second : Nat) (s : State) : State :=
  let old := s.tmr
  let t := { old with valid := true, minute := minute, second := second }
  if !old.valid then { s with tmr := t.armWaiting }
  else
    let d := (t.timeOfWeek + weekSeconds - old.timeOfWeek) % weekSeconds
    if d = 0 then { s with tmr := t }
    else
      let missed := if d ≤ 302400 then old.missedIds d else []
      missed.foldl (fun s (id : Nat) => post .timerMissed 0 (id : Int) s) { s with tmr := t.rearmClock missed }

/-! ### Linked entries (R135) -/

/-- Create: a linked entry with its action and due time. -/
def createLinked (id : Nat) (action : Action) (due : Nat) (s : State) : State :=
  { s with tmr := s.tmr.put ⟨id, .linked, action, some due⟩ }

/-- Remove: an id not in the table changes nothing, and no notice is posted. -/
def removeLinked (id : Nat) (s : State) : State := { s with tmr := s.tmr.remove id }

/-- A linked entry's due time is moved; the caller fires it where it is now past (R135). -/
def moveDue (id due : Nat) (s : State) : State :=
  match s.tmr.find id with
  | some e => { s with tmr := s.tmr.put { e with due := some due } }
  | none => s

/-! ### The clock requests (R126, R127) -/

/-- SET CLOCK (R126). -/
def reqSetClock (p : List Byte) (s : State) : Answer :=
  checked 4 p (decide (u8At p 0 ≤ 6)) s fun s =>
    let h := clampNat 0 23 (u8At p 1)
    let m := clampNat 0 59 (u8At p 2)
    let sec := clampNat 0 59 (u8At p 3)
    done (accepted (h != u8At p 1 || m != u8At p 2 || sec != u8At p 3))
      (clockSet (u8At p 0 * 1440 + h * 60 + m) sec s)

/-- The reply payload of READ CLOCK (R127). -/
def clockPayload (s : State) : List Byte :=
  let t := s.tmr
  let tod :=
    if t.valid then natBytes 1 (t.minute / 1440) ++ natBytes 1 (t.minute % 1440 / 60) ++ natBytes 1 (t.minute % 60) ++
      natBytes 1 t.second
    else [0, 0, 0, 0]
  encFlag t.valid ++ tod ++ encU s.free 4 t.seconds

/-- READ CLOCK (R127). -/
def reqReadClock (p : List Byte) (s : State) : Answer :=
  checked 0 p true s fun s => ⟨s, .ok, clockPayload s⟩

/-! ### The table requests (R130 to R132) -/

/-- The form of a SET TIMER payload, with whether a value was clamped. -/
def formOf (p : List Byte) : Option (Form × Bool) :=
  match u8At p 1 with
  | 0 =>
    let m := clampNat 0 1439 (u16At p 2)
    if u8At p 4 = 0 ∨ 128 ≤ u8At p 4 then none else some (.weekly m (u8At p 4), m != u16At p 2)
  | 1 =>
    let m := clampNat 0 10079 (u16At p 2)
    some (.onceAt m, m != u16At p 2)
  | 2 =>
    let n := clampNat 60 86400 (u32At p 2)
    some (.after n, n != u32At p 2)
  | _ => none

/-- The action of a SET TIMER payload, with whether a value was clamped. -/
def actionOf (p : List Byte) : Option (Action × Bool) :=
  match u8At p 6 with
  | 1 =>
    let t := clampInt 50 300 (i16At p 7)
    let r := runMinutes (u16At p 9)
    some (.heaterStart t r, t != i16At p 7 || r != u16At p 9)
  | 2 => some (.heaterStop, false)
  | 3 => some (.coolingOn, false)
  | 4 => some (.coolingOff, false)
  | 5 =>
    let v := clampNat 0 100 (u8At p 8)
    let r := clampNat 0 60000 (u16At p 9)
    (lightOf (u8At p 7)).map fun l => (.lightLevel l v r, v != u8At p 8 || r != u16At p 9)
  | 6 => (patternOf (u8At p 7)).map fun pat => (.alert pat, false)
  | _ => none

/-- A host entry's id (R130). -/
def hostId (n : Nat) : Bool := decide (1 ≤ n) && decide (n ≤ 239)

/-- The state and due time of an entry, five bytes (R130). -/
def entryState (free : Nat) (e : Entry) : List Byte :=
  match e.due with
  | some due => 0 :: encU free 4 due
  | none => [1, 0, 0, 0, 0]

/-- SET TIMER (R130). -/
def reqSetTimer (p : List Byte) (s : State) : Answer :=
  if p.length ≠ 11 then refuse .badLength s
  else if !hostId (u8At p 0) then refuse .badField s
  else
    match formOf p, actionOf p with
    | some (f, c1), some (a, c2) =>
      if s.settling then refuse .notReady s
      else if !s.tmr.holds (u8At p 0) && decide (10 ≤ s.tmr.table.length) then refuse .noRoom s
      else
        let e := s.tmr.arm ⟨u8At p 0, f, a, none⟩
        ⟨{ s with tmr := s.tmr.put e }, accepted (c1 || c2), entryState s.free e⟩
    | _, _ => refuse .badField s

/-- CLEAR TIMER (R131). -/
def reqClearTimer (p : List Byte) (s : State) : Answer :=
  checked 1 p (hostId (u8At p 0)) s fun s => done .ok { s with tmr := s.tmr.remove (u8At p 0) }

/-- The form and form parameter of an entry, five bytes (R132); bytes not used are free (log 10). -/
def formBytes (free : Nat) (e : Entry) : List Byte :=
  match e.form with
  | .weekly m mask => 0 :: natBytes 2 m ++ natBytes 1 mask ++ [Config.unusedByte free e.id 5]
  | .onceAt m => 1 :: natBytes 2 m ++ [Config.unusedByte free e.id 4, Config.unusedByte free e.id 5]
  | .after n => 2 :: natBytes 4 n
  | .linked => [3, 0, 0, 0, 0]

/-- The action and its arguments, five bytes (R132); bytes not used are free (log 10). -/
def actionBytes (free : Nat) (e : Entry) : List Byte :=
  let u := Config.unusedByte free e.id
  BitVec.ofNat 8 (actionCode e.action) ::
    match e.action with
    | .heaterStart t r => signed16 t ++ natBytes 2 r
    | .lightLevel l v r => [BitVec.ofNat 8 (consumerNumber (lightConsumer l)), BitVec.ofNat 8 v] ++ natBytes 2 r
    | .alert pat => [BitVec.ofNat 8 (patternNumber pat), u 8, u 9, u 10]
    | .heaterStop | .coolingOn | .coolingOff => [u 7, u 8, u 9, u 10]
    | .wake | .prewarm | .restEnd => [0, 0, 0, 0]

/-- The 16 bytes of an entry (R132). -/
def entryBytes (free : Nat) (e : Entry) : List Byte :=
  BitVec.ofNat 8 e.id :: formBytes free e ++ actionBytes free e ++ entryState free e

/-- LIST TIMERS (R132). -/
def reqListTimers (p : List Byte) (s : State) : Answer :=
  checked 0 p true s fun s =>
    ⟨s, .ok, natBytes 1 s.tmr.table.length ++ s.tmr.table.flatMap (entryBytes s.free)⟩

/-! ### The TIMERS block (R136) -/

/-- The WEEKLY entries of the table in ascending id, as block 9 stores them. -/
def weeklyOf (t : Timer) : List Weekly :=
  (orderEntries (t.table.map fun e => { e with due := none })).filterMap fun e =>
    match e.form with
    | .weekly m mask => some ⟨e.id, m, mask, e.action⟩
    | _ => none

/-- The table filled with the WEEKLY entries of block 9, each in WAITING_CLOCK (R136). -/
def tableOf (l : List Weekly) : List Entry :=
  orderEntries (l.map fun w => ⟨w.id, .weekly w.minute w.mask, w.action, none⟩)

end Sys2Proof.Machine
end

