-- ==== Sys2Proof/Machine/Duty.lean ====
section
/-! DEFINITION. The rest and driving-time clock (chapter 6), but for the requests and keys that may fire a timer entry
(Firing.lean). -/

namespace Sys2Proof.Machine

/-! ### Codes -/

/-- The kind codes of Table 63. -/
def kindCode : Kind → Nat
  | .stop => 0 | .drive => 1 | .rest => 2

/-- The end cause codes of Table 65. -/
def endCauseCode : EndCause → Nat
  | .open => 0 | .ignition => 1 | .vehicle => 2 | .restBegin => 3 | .restEnd => 4 | .interrupted => 5

/-- The vehicle state codes of R105. -/
def vehicleCode : Vehicle → Nat
  | .stopped => 0 | .moving => 1

/-- A saturating 32-bit counter, one up. -/
def count32 (n : Nat) : Nat := satSucc 4294967295 n

/-! ### The end of a session (R118, R119) -/

/-- The linked entries still present are removed (R135). -/
def removeLinkedAll (s : State) : State := removeLinked 242 (removeLinked 241 (removeLinked 240 s))

/-- The elapsed seconds of a session. -/
def Session.elapsed (x : Session) (now : Nat) : Nat := now - x.start

/-- The session is shorter than planned. -/
def Session.short (x : Session) (now : Nat) : Bool := decide (x.elapsed now < 60 * x.planned)

/-- The session ends with a detail: entries, WAKE, REST_SHORT, REST_END, and the record is emptied (R118, R119); an
interruption also requests the REST_SHORT alert. -/
def closeSession (x : Session) (detail : Nat) (alert : Bool) (s : State) : State :=
  let minutes : Int := (x.elapsed s.tmr.seconds / 60 : Nat)
  let s := withdrawWake (removeLinkedAll s)
  let s :=
    if x.short s.tmr.seconds then
      let s := post .restShort detail minutes s
      if alert then requestAlert .restShort s else s
    else s
  let s := post .restEnd detail minutes s
  { s with duty := { s.duty with session := none } }

/-! ### Activity kinds (R104, R107, R111) -/

/-- Table 63. -/
def kindNow (s : State) : Kind :=
  if s.meas.ign.level ∧ s.duty.effective = .moving then .drive
  else if s.duty.session.isSome then .rest
  else .stop

/-- The open record closes with an end cause and a new one opens (R107). -/
def Duty.changeKind (d : Duty) (k : Kind) (cause : EndCause) (now : Nat) : Duty :=
  { d with closed := pushRing 47 d.closed { d.current with cause := cause }, current := ⟨k, .open, now, 0⟩ }

/-- R111: the end of a non-drive span. -/
def Duty.spanEnd (d : Duty) : Duty :=
  { d with
    sp := d.sp || d.pf
    pf := false
    ns := 0
    marks := ⟨false, false, false, false⟩
    breakGiven := false }

/-- The end cause of Table 64 for a change between two kinds, where a DRIVE that ends has the given cause. -/
def endCauseOf (old new : Kind) (driveEnd : EndCause) : EndCause :=
  match old, new with
  | .rest, .drive => .interrupted
  | .stop, .drive => .vehicle
  | .drive, .drive => .vehicle
  | .drive, .stop => driveEnd
  | .rest, .stop => .restEnd
  | .stop, .stop => .restEnd
  | _, .rest => .restBegin

/-- The record of the kind in force closes and one of the kind now holding opens (R104, R107, R111). -/
def switchKind (new : Kind) (driveEnd : EndCause) (s : State) : State :=
  let d := s.duty.changeKind new (endCauseOf s.duty.current.kind new driveEnd) s.tmr.seconds
  { s with duty := if new = .drive then d.spanEnd else d }

/-- R104: the kind is re-evaluated; a change to DRIVE interrupts a session first (R119). -/
def reevaluate (driveEnd : EndCause) (s : State) : State :=
  let new := kindNow s
  if new = s.duty.current.kind then s
  else if new = .drive then
    match s.duty.session with
    | some x => switchKind .drive driveEnd (closeSession x 2 true s)
    | none => switchKind .drive driveEnd s
  else switchKind new driveEnd s

/-! ### Ignition and vehicle state (R105, R106) -/

/-- Ignition on (R105, R106). -/
def ignitionOn (s : State) : State :=
  let d := s.duty
  reevaluate .ignition
    { s with duty := { d with hold := if d.reported = d.effective then none else some 0, stale := 0 } }

/-- Ignition off (R106). -/
def ignitionOff (s : State) : State :=
  reevaluate .ignition
    { s with
      duty :=
        { s.duty with reported := .stopped, effective := .stopped, hold := none, stale := 0, staleFlag := false } }

/-- Meaning of VEHICLE_HOLD_EXPIRY (R105). The duty second that completes the hold has been counted for the kind in force
until now (R104; log 52). -/
def execVehicleHoldExpiry (s : State) : Host.Outcome State Fault Refusal :=
  s.live fun s =>
    whenDue (s.duty.hold == some 10) s fun s =>
      reevaluate .vehicle { s with duty := { s.duty with effective := s.duty.reported, hold := none } }

/-- Meaning of VEHICLE_STALE (R106). It comes after the duty second at which the count reached 30, and so after the notices
and alerts of the thresholds and warnings of that second; no rule gives an order, and this is the model's choice (log 74). -/
def execVehicleStale (s : State) : Host.Outcome State Fault Refusal :=
  s.live fun s =>
    whenDue (s.meas.ign.level && s.duty.stale == 30 && !s.duty.staleFlag) s fun s =>
      post .vehicleStale 0 (vehicleCode s.duty.effective) { s with duty := { s.duty with staleFlag := true } }

/-- SET VEHICLE STATE (R105, R106). -/
def reqSetVehicleState (p : List Byte) (s : State) : Answer :=
  checked 1 p (decide (u8At p 0 ≤ 1)) s fun s =>
    let d := s.duty
    let v := if u8At p 0 = 1 then Vehicle.moving else .stopped
    let hold := if v = d.effective ∨ s.meas.ign.level = false then none else some (d.hold.getD 0)
    done .ok { s with duty := { d with reported := v, hold := hold, stale := 0, staleFlag := false } }

/-! ### Counters and thresholds (R109, R110) -/

/-- CD becomes 0, and with it the continuous latches and their repeat count (R110, R113). -/
def Duty.zeroCd (d : Duty) : Duty :=
  { d with cd := 0, cdPre := false, cdLimit := false, cdRepeat := none, cdRepeatNo := 0 }

/-- DD and CD become 0, and with them every latch (R109, R110, R113). -/
def Duty.zeroDd (d : Duty) : Duty :=
  { d.zeroCd with dd := 0, ddPre := false, ddLimit := false, ddRepeat := none, ddRepeatNo := 0 }

/-- NS in minutes, the value of the threshold notices. -/
def nsMinutes (s : State) : Int := (s.duty.ns / 60 : Nat)

/-- The FIRST event (Table 66). -/
def thresholdFirst (s : State) : State :=
  let d := s.duty
  if d.marks.first = false ∧ 60 * s.set.breakFirst ≤ d.ns then
    { s with duty := { d with marks := { d.marks with first := true }, pf := d.pf || !d.sp } }
  else s

/-- The SECOND event (Table 66). -/
def thresholdSecond (s : State) : State :=
  let d := s.duty
  if d.marks.second = false ∧ 60 * s.set.breakSecond ≤ d.ns then
    let m := { d.marks with second := true }
    if d.sp then
      post .breakTaken 1 (nsMinutes s)
        { s with duty := { d.zeroCd with marks := m, sp := false, pf := false, breakGiven := true } }
    else { s with duty := { d with marks := m } }
  else s

/-- The FULL event (Table 66). -/
def thresholdFull (s : State) : State :=
  let d := s.duty
  if d.marks.full = false ∧ 60 * s.set.breakFull ≤ d.ns then
    let s' :=
      { s with
        duty := { d.zeroCd with marks := { d.marks with full := true }, sp := false, pf := false, breakGiven := true } }
    if d.breakGiven then s' else post .breakTaken 0 (nsMinutes s) s'
  else s

/-- The DAILY event (Table 66). -/
def thresholdDaily (s : State) : State :=
  let d := s.duty
  if d.marks.daily = false ∧ 60 * s.set.dailyRest ≤ d.ns then
    post .dailyRestDone 0 (nsMinutes s)
      { s with
        duty :=
          { d.zeroDd with
            marks := { d.marks with daily := true }, sp := false, pf := false, historyIncomplete := false } }
  else s

/-- The threshold events of a duty second, in the order of Table 66 (R110). -/
def thresholds (s : State) : State := thresholdDaily (thresholdFull (thresholdSecond (thresholdFirst s)))

/-! ### Warnings (R112, R113) -/

/-- The continuous drive time in minutes. -/
def cdMinutes (s : State) : Int := (s.duty.cd / 60 : Nat)

/-- The daily drive time in minutes. -/
def ddMinutes (s : State) : Int := (s.duty.dd / 60 : Nat)

/-- The repeat interval in seconds (R113). -/
def repeatSeconds (s : State) : Nat := 60 * s.set.limitRepeat

/-- The continuous prewarning (Table 68). -/
def warnCdPre (s : State) : State :=
  if s.duty.cdPre = false ∧ 60 * (s.set.limitCd - s.set.warnCd) ≤ s.duty.cd then
    requestBetween .drivePrewarn
      (post .drivePrewarn 0 (cdMinutes s) { s with duty := { s.duty with cdPre := true } })
  else s

/-- The continuous limit (Table 68). -/
def warnCdLimit (s : State) : State :=
  if s.duty.cdLimit = false ∧ 60 * s.set.limitCd ≤ s.duty.cd then
    requestBetween .driveLimit
      (post .driveLimit 0 (cdMinutes s)
        { s with duty := { s.duty with cdLimit := true, cdRepeat := some (repeatSeconds s), cdRepeatNo := 0 } })
  else s

/-- The daily prewarning (Table 68). -/
def warnDdPre (s : State) : State :=
  if s.duty.ddPre = false ∧ 60 * (s.set.limitDd - s.set.warnDd) ≤ s.duty.dd then
    requestBetween .dailyPrewarn
      (post .dailyPrewarn 0 (ddMinutes s) { s with duty := { s.duty with ddPre := true } })
  else s

/-- The daily limit (Table 68). -/
def warnDdLimit (s : State) : State :=
  if s.duty.ddLimit = false ∧ 60 * s.set.limitDd ≤ s.duty.dd then
    requestBetween .dailyLimit
      (post .dailyLimit 0 (ddMinutes s)
        { s with duty := { s.duty with ddLimit := true, ddRepeat := some (repeatSeconds s), ddRepeatNo := 0 } })
  else s

/-- The warnings of a DRIVE second, in the order of Table 68 (R112). A limit that is to be repeated at the same second is
repeated after all four (log 60). -/
def warnings (s : State) : State := warnDdLimit (warnDdPre (warnCdLimit (warnCdPre s)))

/-- The continuous limit again (R113). -/
def repeatCd (s : State) : State :=
  let n := satSucc 255 s.duty.cdRepeatNo
  requestBetween .driveLimit
    (post .driveLimit n (cdMinutes s)
      { s with duty := { s.duty with cdRepeat := some (repeatSeconds s), cdRepeatNo := n } })

/-- The daily limit again (R113). -/
def repeatDd (s : State) : State :=
  let n := satSucc 255 s.duty.ddRepeatNo
  requestBetween .dailyLimit
    (post .dailyLimit n (ddMinutes s)
      { s with duty := { s.duty with ddRepeat := some (repeatSeconds s), ddRepeatNo := n } })

/-- LIMIT_REPEAT on one limit (R113). -/
def limitRepeated (x : Limit) (s : State) : State :=
  match x with
  | .continuous => whenDue (s.duty.cdRepeat == some 0) s repeatCd
  | .daily => whenDue (s.duty.ddRepeat == some 0) s repeatDd

/-- Meaning of LIMIT_REPEAT (R113). It comes after the duty second whose count reached 0, and so after the warnings that
R112 takes in that second; the rules give no order between them, and this is the model's choice (log 60). -/
def execLimitRepeat (x : Limit) (s : State) : Host.Outcome State Fault Refusal := s.live (limitRepeated x)

/-! ### The duty second (R105 to R107, R109) -/

/-- What every duty second counts: the open record, the hold count, the staleness count (R105 to R107). -/
def Duty.secondBase (d : Duty) (ignition : Bool) : Duty :=
  { d with
    current := { d.current with duration := count32 d.current.duration }
    hold := d.hold.map (satSucc 10)
    stale := if ignition then satSucc 30 d.stale else d.stale }

/-- A second of DRIVE: CD, DD and the repeat counts of set latches (R109, R113). -/
def Duty.driveSecond (d : Duty) : Duty :=
  { d with
    cd := count32 d.cd
    dd := count32 d.dd
    cdRepeat := d.cdRepeat.map (· - 1)
    ddRepeat := d.ddRepeat.map (· - 1) }

/-- The duty second (R109, R110, R112). -/
def dutySecond (s : State) : State :=
  let d := s.duty.secondBase s.meas.ign.level
  if d.current.kind = .drive then warnings { s with duty := d.driveSecond }
  else thresholds { s with duty := { d with ns := count32 d.ns } }

/-- The seconds counter goes up, the time of day advances, and the table is checked (R124, R125, R133, log 34). -/
def Timer.tick (t : Timer) : Timer :=
  let t := { t.advance with seconds := count32 t.seconds }
  { t with
    firing := (t.table.filter fun e =>
      match e.due with
      | some due => decide (due ≤ t.seconds)
      | none => false).map (·.id) }

/-- Meaning of TIMER_SECOND (R124). With the counter saturated there is no increment any more; the three effects go on
(log 45). Every other event of the second has a command of its own and comes after it (log 74). -/
def execTimerSecond (s : State) : Host.Outcome State Fault Refusal :=
  s.live fun s => dutySecond { s with tmr := s.tmr.tick }

/-! ### Rest sessions (R114, R116 to R118) -/

/-- The planned end (Table 69). -/
def Session.planEnd (x : Session) : Nat := x.start + 60 * x.planned

/-- A linked entry's due time: a lead before the planned end, not before the start (Table 70). -/
def Session.dueBefore (x : Session) (lead : Nat) : Nat := max x.start (x.planEnd - 60 * lead)

/-- The session needs a PREWARM entry (Table 70). -/
def needsPrewarm (x : Session) (s : State) : Bool := x.prewarm.isSome && heaterFitted s

/-- The number of linked entries a session needs (Table 70). -/
def linkedNeeded (x : Session) (s : State) : Nat :=
  (if 0 < x.wakeLead then 1 else 0) + (if needsPrewarm x s then 1 else 0) + 1

/-- A session may begin: the table has room for its entries (R114). -/
def roomFor (x : Session) (s : State) : Bool := decide (s.tmr.table.length + linkedNeeded x s ≤ 10)

/-- The linked entries of a session are created (Table 70). -/
def createEntries (x : Session) (s : State) : State :=
  let s := if 0 < x.wakeLead then createLinked 240 .wake (x.dueBefore x.wakeLead) s else s
  let s :=
    if needsPrewarm x s then
      createLinked 241 .prewarm (x.dueBefore ((x.prewarm.map (·.lead)).getD 0)) s
    else s
  createLinked 242 .restEnd x.planEnd s

/-- The accepting event of R114, with the detail of its notice. -/
def beginSession (x : Session) (detail : Nat) (s : State) : State :=
  let s := createEntries x { s with duty := { s.duty with session := some x } }
  reevaluate .vehicle (post .restBegin detail x.planned s)

/-- The prewarm of a BEGIN REST payload (R114). -/
def prewarmOf (p : List Byte) : Option Prewarm :=
  if u8At p 3 = 1 then some ⟨clampNat 0 90 (u8At p 4), clampInt 50 300 (i16At p 5)⟩ else none

/-- BEGIN REST (R114). -/
def reqBeginRest (p : List Byte) (s : State) : Answer :=
  checked 7 p (decide (u8At p 3 ≤ 1)) s fun s =>
    let len := clampNat 15 720 (u16At p 0)
    let lead := clampNat 0 60 (u8At p 2)
    let x : Session := ⟨.active, .request, s.tmr.seconds, len, lead, prewarmOf p⟩
    if s.duty.current.kind = .drive ∨ s.duty.session.isSome then refuse .wrongState s
    else if !roomFor x s then refuse .noRoom s
    else
      let clamped :=
        len != u16At p 0 || lead != u8At p 2 ||
          (u8At p 3 == 1 && (decide (90 < u8At p 4) || clampInt 50 300 (i16At p 5) != i16At p 5))
      ⟨beginSession x 0 s, accepted clamped,
        encU s.free 4 x.planEnd ++ encBitByte [decide (0 < x.wakeLead), needsPrewarm x s, true]⟩

/-- The end of a session by END REST or KEY4 (R118). -/
def endSession (x : Session) (detail : Nat) (s : State) : State := reevaluate .vehicle (closeSession x detail false s)

/-- END REST (R118). -/
def reqEndRest (p : List Byte) (s : State) : Answer :=
  checked 0 p true s fun s =>
    match s.duty.session with
    | none => refuse .wrongState s
    | some x => ⟨endSession x 0 s, .ok, encU s.free 2 (x.elapsed s.tmr.seconds / 60)⟩

/-- A KEY4 LONG press (R115). -/
def key4Long (s : State) : State :=
  match s.duty.session with
  | some x => endSession x 1 s
  | none =>
    let x : Session := ⟨.active, .key4, s.tmr.seconds, s.set.key4Length, s.set.key4Wake, none⟩
    if s.duty.current.kind = .stop ∧ roomFor x s then beginSession x 1 s else s

/-- The firing of WAKE (R116). -/
def wakeFired (s : State) : State :=
  match s.duty.session with
  | some x => requestWake (60000 * x.wakeLead) s
  | none => s

/-- The firing of REST_END (R116). -/
def restEndFired (s : State) : State :=
  match s.duty.session with
  | some x => post .restDue 0 x.planned { s with duty := { s.duty with session := some { x with state := .due } } }
  | none => s

/-! ### Status (R108, R122) -/

/-- The layout of Table 65. -/
def periodBytes (free : Nat) (x : Period) : List Byte :=
  natBytes 1 (kindCode x.kind) ++ natBytes 1 (endCauseCode x.cause) ++ encU free 4 x.start ++ encU free 4 x.duration

/-- The period list, newest first. -/
def Duty.newestFirst (d : Duty) : List Period := d.current :: d.closed.reverse

/-- READ PERIODS (R108). -/
def reqReadPeriods (p : List Byte) (s : State) : Answer :=
  checked 1 p (decide (u8At p 0 ≤ 47)) s fun s =>
    let l := s.duty.newestFirst
    let taken := (l.drop (u8At p 0)).take 4
    ⟨s, .ok, natBytes 1 l.length ++ natBytes 1 taken.length ++ taken.flatMap (periodBytes s.free)⟩

/-- The session record in the DUTY STATUS payload (R122). The elapsed minutes have no length limit below that of the seconds
counter, so they take 4 bytes (R161; log 11). Without a prewarm its lead and target are sent as 0 (log 51). -/
def sessionBytes (s : State) : List Byte :=
  match s.duty.session with
  | none => List.replicate 22 0
  | some x =>
    let f := s.free
    [1] ++ natBytes 1 (if x.state = .due then 1 else 0) ++ natBytes 1 (if x.origin = .key4 then 1 else 0) ++
      encU f 4 x.start ++ encU f 4 x.planEnd ++ encU f 2 x.planned ++ encU f 1 x.wakeLead ++
      encFlag x.prewarm.isSome ++ encU f 1 ((x.prewarm.map (·.lead)).getD 0) ++
      encI f 2 ((x.prewarm.map (·.target)).getD 0) ++ encU f 4 (x.elapsed s.tmr.seconds / 60)

/-- The DUTY STATUS payload (R122; widths: R161). -/
def dutyPayload (s : State) : List Byte :=
  let d := s.duty
  let f := s.free
  encU f 4 d.cd ++ encU f 4 d.dd ++ encU f 4 d.ns ++
    encBitByte [d.sp, d.pf, d.breakGiven, d.cdPre, d.cdLimit, d.ddPre, d.ddLimit, d.historyIncomplete] ++
    encBitByte
      [s.sto.lock, d.staleFlag, s.meas.ign.level, d.marks.first, d.marks.second, d.marks.full, d.marks.daily] ++
    natBytes 1 (kindCode d.current.kind) ++ natBytes 1 (vehicleCode d.reported) ++
    natBytes 1 (vehicleCode d.effective) ++ encU f 1 (d.hold.getD 0) ++ encU f 1 (d.closed.length + 1) ++
    sessionBytes s

/-- DUTY STATUS (R122). -/
def reqDutyStatus (p : List Byte) (s : State) : Answer := checked 0 p true s fun s => ⟨s, .ok, dutyPayload s⟩

end Sys2Proof.Machine
end

