-- ==== Sys2Proof/Machine/LightRequests.lean ====
section
/-! DEFINITION. The requests of the light unit (R86, R88, R89, R92, R101). -/

namespace Sys2Proof.Machine

/-! ### SET LIGHT (R86) -/

/-- The level that SET LIGHT stores (R86). -/
def storedLevel (l : Light) (level : Nat) : Nat :=
  if l = .chime then (if level = 0 then 0 else 100) else clampNat 0 100 level

/-- The ramp time that SET LIGHT uses (R86). -/
def storedRamp (l : Light) (ramp : Nat) : Nat := if l = .chime then 0 else clampNat 0 60000 ramp

/-- A level above 30 on a degraded bunk light is kept as given and answered OK_CLAMPED (R97). -/
def aboveCap (s : State) (l : Light) (level : Nat) : Bool :=
  l != .chime && (s.light l).degraded && decide (30 < level)

/-- SET LIGHT after its length and consumer checks; also the fired LIGHT_LEVEL entry (R86). -/
def trySetLight (l : Light) (level ramp : Nat) (s : State) : Result × State :=
  if s.settling then (.notReady, s)
  else if !fitted s (lightConsumer l) then (.notFitted, s)
  else
    let v := storedLevel l level
    let r := storedRamp l ramp
    (accepted (v != level || r != ramp || aboveCap s l v), setSteady l v r s)

/-- SET LIGHT (R86). -/
def reqSetLight (p : List Byte) (s : State) : Answer :=
  if p.length ≠ 4 then refuse .badLength s
  else
    match lightOf (u8At p 0) with
    | none => refuse .badField s
    | some l => done (trySetLight l (u8At p 1) (u16At p 2) s).1 (trySetLight l (u8At p 1) (u16At p 2) s).2

/-! ### LOAD PROGRAM (R88, R89) -/

/-- The length of a LOAD PROGRAM payload: 4 + 3 × n with n from 1 to 12. -/
def programLength (n : Nat) : Bool := decide (7 ≤ n) && decide (n ≤ 40) && decide ((n - 4) % 3 = 0)

/-- Step `k` of a payload (Table 55). -/
def programStep (l : Light) (p : List Byte) (k : Nat) : PStep where
  level := storedLevel l (u8At p (4 + 3 * k))
  ramp := if l = .chime then 0 else 50 * clampNat 0 200 (u8At p (5 + 3 * k))
  hold := 250 * clampNat 0 240 (u8At p (6 + 3 * k))

/-- A number of a step is clamped, or its level stands above the cap of a degraded light (R88, R97). -/
def stepClamped (s : State) (l : Light) (p : List Byte) (k : Nat) : Bool :=
  storedLevel l (u8At p (4 + 3 * k)) != u8At p (4 + 3 * k) || decide (200 < u8At p (5 + 3 * k)) ||
    (l == .chime && u8At p (5 + 3 * k) != 0) || decide (240 < u8At p (6 + 3 * k)) ||
    aboveCap s l (storedLevel l (u8At p (4 + 3 * k)))

/-- The number of steps of a payload. -/
def programSteps (p : List Byte) : Nat := (p.length - 4) / 3

/-- The program of a payload. -/
def programOf (l : Light) (p : List Byte) : Program where
  tag := u8At p 2
  runs := min 15 (u8At p 3)
  steps := (List.range (programSteps p)).map (programStep l p)

/-- Some number of the payload is clamped (R88). -/
def programClamped (s : State) (l : Light) (p : List Byte) : Bool :=
  decide (15 < u8At p 3) || (List.range (programSteps p)).any (stepClamped s l p)

/-- A program is placed (R88): its place and the new state. -/
def placeProgram (l : Light) (q : Program) (s : State) : Nat × State :=
  let r := s.light l
  if r.active.isNone && r.playing.isNone then (0, s.setLight l (r.beginStep q 1 1))
  else (r.waiting.length + 1, s.setLight l { r with waiting := r.waiting ++ [q] })

/-- LOAD PROGRAM (R88, R89). -/
def reqLoadProgram (p : List Byte) (s : State) : Answer :=
  if !programLength p.length then refuse .badLength s
  else
    match lightOf (u8At p 0) with
    | none => refuse .badField s
    | some l =>
      let replace := u8At p 1 == 1
      if 2 ≤ u8At p 1 then refuse .badField s
      else if s.settling then refuse .notReady s
      else if !fitted s (lightConsumer l) then refuse .notFitted s
      else if (s.light l).shed || (s.chan (lightConsumer l)).state == .latched || s.lgt.cutoffHold then
        refuse .wrongState s
      else if !replace && decide (2 ≤ (s.light l).waiting.length) then refuse .noRoom s
      else
        let placed := placeProgram l (programOf l p) (if replace then endPrograms l .replaced s else s)
        ⟨placed.2, accepted (programClamped s l p), natBytes 1 placed.1⟩

/-! ### CANCEL PROGRAM (R92) -/

/-- The programs of a consumer that a selector picks end CANCELLED (R92). -/
def cancelPrograms (l : Light) (f : Program → Bool) (s : State) : State :=
  let r := s.light l
  let kept := r.waiting.filter fun q => !f q
  let ended := (r.active.map (·.prog)).toList.filter f
  let r := { r with waiting := kept }
  let r := if ended.isEmpty then r else { r with active := none }.resume
  (ended ++ (s.light l).waiting.filter f).foldl (fun s q => postEnd l .cancelled q s) (s.setLight l r)

/-- The programs of a consumer that a selector picks, counted. -/
def cancelCount (l : Light) (f : Program → Bool) (s : State) : Nat :=
  (((s.light l).active.map (·.prog)).toList ++ (s.light l).waiting).countP f

/-- CANCEL PROGRAM (R92). -/
def reqCancelProgram (p : List Byte) (s : State) : Answer :=
  if p.length ≠ 3 then refuse .badLength s
  else
    match lightOf (u8At p 0) with
    | none => refuse .badField s
    | some l =>
      if 2 ≤ u8At p 1 then refuse .badField s
      else if s.settling then refuse .notReady s
      else if !fitted s (lightConsumer l) then refuse .notFitted s
      else
        let f := fun q : Program => u8At p 1 == 1 || q.tag == u8At p 2
        ⟨cancelPrograms l f s, .ok, natBytes 1 (cancelCount l f s)⟩

/-! ### LIGHT STATUS (R101) -/

/-- The source numbers, in the order of Table 51. -/
def sourceNumber : LightSource → Nat
  | .steady => 0 | .program => 1 | .alert => 2

/-- A pattern's number and class, 0 and 0 for none (R101). -/
def patternBytes : Option Pattern → List Byte
  | none => [0, 0]
  | some pat => natBytes 1 (patternNumber pat) ++ natBytes 1 (classRank (patternClass pat))

/-- One record in the LIGHT STATUS payload (R101; widths: R161; the run number and the classes: log 11). -/
def lightBytes (s : State) (l : Light) : List Byte :=
  let r := s.light l
  let f := s.free
  encFlag (fitted s (lightConsumer l)) ++ natBytes 1 (sourceNumber r.source) ++ encU f 1 r.steady ++
    encU f 1 r.present ++ encU f 1 r.applied ++ encU f 1 r.lastNonzero ++
    natBytes 1 (if r.degraded then 30 else 100) ++ encFlag r.shed ++
    (match r.active with
     | some a => encU f 1 a.prog.tag ++ encU f 4 a.run ++ encU f 1 a.step
     | none => [0, 0, 0, 0, 0, 0]) ++
    encU f 1 r.waiting.length ++ r.waiting.flatMap (fun q => encU f 1 q.tag) ++
    patternBytes (r.playing.map (·.pattern)) ++ patternBytes r.queued

/-- The LIGHT STATUS payload (R101). -/
def lightPayload (s : State) : List Byte :=
  [Light.lower, .upper, .chime].flatMap (lightBytes s) ++ encFlag s.lgt.cutoffHold ++ encFlag s.set.infoEnabled ++
    encFlag s.set.warningEnabled ++ encU s.free 2 (ceilDiv (s.lgt.wakeTimer.getD 0) 1000)

/-- LIGHT STATUS (R101). -/
def reqLightStatus (p : List Byte) (s : State) : Answer := checked 0 p true s fun s => ⟨s, .ok, lightPayload s⟩

end Sys2Proof.Machine
end

