-- ==== Sys2Proof/Machine/Cooling.lean ====
section
/-! DEFINITION. The cooling controller (chapter 4). -/

namespace Sys2Proof.Machine

/-! ### Views of the record -/

/-- The state numbers of Table 44. -/
def coolingNumber : CState → Nat
  | .off => 0 | .minOff => 1 | .waiting => 2 | .running => 3 | .fault => 4

/-- The reasons of Table 47. -/
inductive CoolReason where
  | request | cutIn | cutOut | offTimeEnded | startCheck | trip | latch | hold | shed | band | fallback | reset
  deriving DecidableEq, Repr

/-- The codes of Table 47. -/
def coolReasonCode : CoolReason → Nat
  | .request => 0 | .cutIn => 1 | .cutOut => 2 | .offTimeEnded => 3 | .startCheck => 4 | .trip => 5 | .latch => 6
  | .hold => 7 | .shed => 8 | .band => 9 | .fallback => 10 | .reset => 11

/-- The numbers of the speed steps (R81). -/
def speedNumber : Speed → Nat
  | .none => 0 | .low => 1 | .mid => 2 | .high => 3

/-- The part temperature T: the reported TSF value (R67). -/
def boxTemp (s : State) : Int := reported s .tsf

/-- The effective setpoint Ts (R76). It is formed from the eco offset and the degraded flag as they stand, so COOLING STATUS
shows a new one at once, before the next test at which R76 lets it act; that is the model's choice (log 69). -/
def effectiveSetpoint (s : State) : Int :=
  if s.cool.degraded then s.cool.setpoint + s.set.ecoOffset else s.cool.setpoint

/-- The cut-in temperature (R70). -/
def cutInTemp (s : State) : Int := effectiveSetpoint s + s.set.hysteresis / 2

/-- The cut-out temperature (R70). -/
def cutOutTemp (s : State) : Int := effectiveSetpoint s - s.set.hysteresis / 2

/-- The lid is open (R75). -/
def Cooling.lidOpen (c : Cooling) : Bool := c.lidSets.isSome

/-! ### Speed step (R72) -/

/-- The base step of R72. -/
def baseStep (s : State) : Speed :=
  if s.cool.fallback then .mid
  else if 40 ≤ boxTemp s - effectiveSetpoint s then .high
  else if 20 ≤ boxTemp s - effectiveSetpoint s then .mid
  else .low

/-- The step chosen from the base step, the lid and the eco cap (R72). -/
def chosenStep (s : State) : Speed :=
  let base := if s.cool.lidOpen then .high else baseStep s
  if s.cool.degraded ∧ base = .high then .mid else base

/-- The CSPD duty of a step (Table 49). -/
def stepDuty (w : Working) : Speed → Nat
  | .none => 0 | .low => w.speedLow | .mid => w.speedMid | .high => w.speedHigh

/-- The step is chosen anew and CSPD takes its duty at once; the step time is kept (R72). -/
def chooseStep (s : State) : State :=
  { s with cool := { s.cool with step := chosenStep s, cspd := stepDuty s.set (chosenStep s) } }

/-- The step is chosen anew and the step time restarts (R72). -/
def chooseStepAfresh (s : State) : State :=
  let s := chooseStep s
  { s with cool := { s.cool with stepSets := 0 } }

/-! ### Entering a state (R67, R68, R70, R80) -/

/-- A switch-off: the minimum-off left and the time since switch-off restart (R68). -/
def switchOff (s : State) : State := { s with cool := { s.cool with minOff := 180000, sinceOff := 0 } }

/-- COMPRESSOR is demanded OFF, a switch-off if its record was DRIVING (R68). -/
def compressorOff (s : State) : State :=
  demand .compressor .off none (if (s.chan .compressor).state = .driving then switchOff s else s)

/-- The record leaves RUNNING, or stays out of it: a run of 60 s with a passed check zeroes the failure count (R73),
and what belongs to RUNNING goes (R67, R77, R81); a cut-in test of WAITING is no longer in force. So a trip at the very set
at which the run reaches 60 s finds the count at 0 and brings it to 1; R73 and R74 give no order, and this is the model's
choice (log 67). -/
def Cooling.leaving (c : Cooling) : Cooling :=
  { c with
    failures := if c.state = .running ∧ 6000 ≤ c.runSets ∧ c.check = .passed then 0 else c.failures
    step := .none
    cspd := 0
    stepSets := 0
    runSets := 0
    check := .none
    sixty := false
    cutIn := false
    stopPending := false }

/-- The COOLING_STATE notice (R80). -/
def postCoolingState (why : CoolReason) (s : State) : State :=
  post .coolingState (coolingNumber s.cool.state) (coolReasonCode why) s

/-- A state other than RUNNING is entered. -/
def enterCooling (st : CState) (why : CoolReason) (s : State) : State :=
  let s := compressorOff s
  postCoolingState why { s with cool := { s.cool.leaving with state := st, offLeft := 0 } }

/-- The off time left on entry to MIN_OFF: the minimum-off left, or in fallback the longer of that and the fallback off
time (R70, R79). -/
def offTime (s : State) : Nat :=
  if s.cool.fallback then max s.cool.minOff (60000 * s.set.fallbackOff) else s.cool.minOff

/-- MIN_OFF is entered (R70). -/
def enterMinOff (why : CoolReason) (s : State) : State :=
  let s := compressorOff s
  postCoolingState why { s with cool := { s.cool.leaving with state := .minOff, offLeft := offTime s } }

/-- RUNNING is entered (R71). -/
def enterRunning (s : State) : State :=
  let s :=
    { s with
      cool := { s.cool with
        state := .running, runSets := 0, check := .pending, sixty := false, cutIn := false, stopPending := false } }
  postCoolingState .cutIn (demand .compressor .duty (some 1000) (chooseStepAfresh s))

/-- The COOLING_FAULT notice (R73, R74). -/
def postCoolingFault (s : State) : State :=
  post .coolingFault (match s.cool.fault with | .none => 0 | .noStart => 1 | .latched => 2) s.cool.failures s

/-- A failed run: the failure count goes up, and MIN_OFF or, at three, FAULT follows (R73, R74). -/
def failedRun (why : CoolReason) (s : State) : State :=
  let s := compressorOff s
  let c := s.cool.leaving
  let s := { s with cool := { c with failures := satSucc 3 c.failures } }
  if s.cool.failures = 3 then
    let s := enterCooling .fault why s
    postCoolingFault { s with cool := { s.cool with fault := .noStart } }
  else enterMinOff why s

/-! ### Events -/

/-- The off time is over: WAITING is entered. The cut-in test of the set at which the off time left reached 0 is made in
WAITING (R70, Section 4.5.1). -/
def offTimeEnds (s : State) : State :=
  let t := enterCooling .waiting .offTimeEnded s
  { t with cool := { t.cool with cutIn := s.cool.cutIn } }

/-- Meaning of MIN_OFF_END (R70). -/
def execMinOffEnd (s : State) : Host.Outcome State Fault Refusal :=
  s.live fun s => whenDue (s.cool.state == .minOff && s.cool.offLeft == 0) s offTimeEnds

/-- The thermostat's demand for a cut-in; in fallback it holds at once (R70, R79). -/
def cutInDemand (s : State) : Bool :=
  s.cool.fallback || (sensorValid s .tsf && decide (cutInTemp s ≤ boxTemp s))

/-- Every admission condition of a cut-in (R70). -/
def cutInAdmitted (s : State) : Bool :=
  coolingFitted s && s.cool.minOff == 0 && !s.cool.shed && compressorAdmission s && !s.cool.held && !holding s &&
    (s.chan .compressor).state != .latched

/-- The controller is in WAITING, or in the MIN_OFF that ends at this set (R70). -/
def Cooling.awaiting (c : Cooling) : Bool := c.state == .waiting || (c.state == .minOff && c.offLeft == 0)

/-- R70: the cut-in test of a sample set; CUT_IN follows where it holds (log 46). -/
def cutInTest (s : State) : State :=
  { s with cool := { s.cool with cutIn := s.cool.awaiting && cutInDemand s && cutInAdmitted s } }

/-- Meaning of CUT_IN (R70, R71): the test of the last sample set held, and no event since has taken an admission condition
away (log 46). -/
def execCutIn (s : State) : Host.Outcome State Fault Refusal :=
  s.live fun s => whenDue (s.cool.state == .waiting && s.cool.cutIn && cutInAdmitted s) s enterRunning

/-- Meaning of START_CHECK_FAIL (R73). -/
def execStartCheckFail (s : State) : Host.Outcome State Fault Refusal :=
  s.live fun s =>
    whenDue (s.cool.state == .running && s.cool.check == .pending && decide (1000 ≤ s.cool.runSets)) s
      (failedRun .startCheck)

/-- Meaning of RUNNING_SIXTY_SECONDS (R73, R77). -/
def execRunningSixtySeconds (s : State) : Host.Outcome State Fault Refusal :=
  s.live fun s =>
    whenDue (s.cool.state == .running && decide (6000 ≤ s.cool.runSets) && !s.cool.sixty) s fun s =>
      let c := s.cool
      let s := { s with cool := { c with sixty := true, failures := if c.check = .passed then 0 else c.failures } }
      if s.cool.stopPending then enterMinOff .shed s else s

/-- Meaning of SPEED_STEP_CHOICE (R72). -/
def execSpeedStepChoice (s : State) : Host.Outcome State Fault Refusal :=
  s.live fun s => whenDue (s.cool.state == .running && decide (3000 ≤ s.cool.stepSets)) s chooseStepAfresh

/-- Meaning of LID_OPEN_120 (R75). -/
def execLidOpen120 (s : State) : Host.Outcome State Fault Refusal :=
  s.live fun s =>
    match s.cool.lidSets with
    | some n =>
      whenDue (coolingFitted s && decide (12000 ≤ n) && !s.cool.lidReported) s fun s =>
        post .lidOpen 0 120 { s with cool := { s.cool with lidReported := true } }
    | none => s

/-- Meaning of FALLBACK_ON_END (R79). The RUNNING time is tested against the fallback on time of this event: R79 and Table 49
do not say when the test is made, so one that is written below the RUNNING time acts before the next set (log 64). -/
def execFallbackOnEnd (s : State) : Host.Outcome State Fault Refusal :=
  s.live fun s =>
    whenDue (s.cool.state == .running && s.cool.fallback && decide (6000 * s.set.fallbackOn ≤ s.cool.runSets)) s
      (enterMinOff .fallback)

/-! ### Reports of the output stage (R74) -/

/-- A trip of the COMPRESSOR record. -/
def coolingTrip (s : State) : State := if s.cool.state = .running then failedRun .trip s else s

/-- A latch of the COMPRESSOR record. -/
def coolingLatch (s : State) : State :=
  if s.cool.state = .off then s
  else
    let s := enterCooling .fault .latch s
    postCoolingFault { s with cool := { s.cool with fault := .latched } }

/-- The COMPRESSOR record is cleared: the demand of Table 44 is written again. -/
def coolingCleared (s : State) : State :=
  if s.cool.state = .running then demand .compressor .duty (some 1000) s else demand .compressor .off none s

/-- A hold of the output stage. -/
def coolingHold (s : State) : State :=
  let s := { s with cool := { s.cool with held := true } }
  if s.cool.state = .running then enterMinOff .hold s else s

/-- The release of the hold. -/
def coolingRelease (s : State) : State := { s with cool := { s.cool with held := false } }

/-! ### Lid, eco, shed, bands, fallback (R75 to R79) -/

/-- The lid is opened (R75). -/
def lidOpened (s : State) : State :=
  let s := { s with cool := { s.cool with lidSets := some 0, lidReported := false } }
  if s.cool.state = .running then chooseStep s else s

/-- The lid is closed (R75). -/
def lidClosed (s : State) : State := { s with cool := { s.cool with lidSets := none, lidReported := false } }

/-- The DEGRADE step is applied or restored (R76). -/
def coolingDegrade (on : Bool) (s : State) : State :=
  let s := { s with cool := { s.cool with degraded := on } }
  if on ∧ s.cool.state = .running then chooseStep s else s

/-- The SHED step is applied (R77). -/
def coolingShed (s : State) : State :=
  let s := { s with cool := { s.cool with shed := true } }
  if s.cool.state = .running then
    if 6000 ≤ s.cool.runSets then enterMinOff .shed s else { s with cool := { s.cool with stopPending := true } }
  else s

/-- The SHED step is restored (R77). -/
def coolingUnshed (s : State) : State := { s with cool := { s.cool with shed := false, stopPending := false } }

/-- The band enters CRITICAL or CUTOFF (R78). -/
def coolingBandStop (s : State) : State := if s.cool.state = .running then enterMinOff .band s else s

/-- A TSF transition to FAULT (R79). -/
def fallbackSet (s : State) : State :=
  let s := { s with cool := { s.cool with fallback := true } }
  match s.cool.state with
  | .running => chooseStepAfresh s
  | .minOff =>
    { s with
      cool := { s.cool with offLeft := max s.cool.offLeft (60000 * s.set.fallbackOff - s.cool.sinceOff) } }
  | .off | .waiting | .fault => s

/-- A TSF transition to VALID (R79). -/
def fallbackCleared (s : State) : State :=
  { s with
    cool :=
      { s.cool with
        fallback := false
        offLeft := if s.cool.state = .minOff then s.cool.minOff else s.cool.offLeft } }

/-! ### The sample set -/

/-- The times of the record one sample set later (R67, R68, R70, R75). -/
def Cooling.tick (c : Cooling) : Cooling :=
  { c with
    minOff := c.minOff - 10
    sinceOff := min 1800000 (c.sinceOff + 10)
    offLeft := if c.state = .minOff then c.offLeft - 10 else c.offLeft
    runSets := if c.state = .running then c.runSets + 1 else c.runSets
    stepSets := if c.state = .running then c.stepSets + 1 else c.stepSets
    lidSets := c.lidSets.map (satSucc 6553500) }

/-- R73: a completed one-second mean of COMPRESSOR passes a PENDING start check. -/
def startCheckPass (s : State) : State :=
  if s.cool.state = .running ∧ s.cool.check = .pending ∧ 300 ≤ (s.chan .compressor).secMean then
    { s with cool := { s.cool with check := .passed } }
  else s

/-- R71: the cut-out test; a pending shed stop takes the run at 60 s instead (R77). -/
def cutOutTest (s : State) : State :=
  if s.cool.state = .running ∧ sensorValid s .tsf = true ∧ s.cool.fallback = false ∧ s.cool.stopPending = false ∧
      6000 ≤ s.cool.runSets ∧ boxTemp s ≤ cutOutTemp s then
    enterMinOff .cutOut s
  else s

/-! ### Requests (R69, R81) -/

/-- COOLING SET in FAULT zeroes the failure count and the fault cause (R69). -/
def coolingFaultCleared (s : State) : State := { s with cool := { s.cool with failures := 0, fault := .none } }

/-- OFF or FAULT is left with the on flag: MIN_OFF with the minimum-off left, or WAITING at once (R69; in fallback, log
22). -/
def coolingOnFromOff (s : State) : State :=
  if s.cool.minOff = 0 then enterCooling .waiting .request s else enterMinOff .request s

/-- COOLING SET once accepted (R69). -/
def coolingSetEffect (on : Bool) (setpoint : Int) (s : State) : State :=
  let s := { s with cool := { s.cool with on := on, setpoint := setpoint } }
  match s.cool.state, on with
  | .off, true => coolingOnFromOff s
  | .fault, true => coolingOnFromOff (coolingFaultCleared s)
  | .off, false => s
  | .minOff, true | .waiting, true | .running, true => s
  | .minOff, false | .waiting, false | .running, false => enterCooling .off .request s
  | .fault, false => enterCooling .off .request (coolingFaultCleared s)

/-- COOLING SET after its length and value checks; also the fired COOLING_ON and COOLING_OFF entries (R69). -/
def tryCooling (on : Bool) (setpoint : Int) (s : State) : Result × State :=
  if s.settling then (.notReady, s)
  else if !coolingFitted s then (.notFitted, s)
  else (.ok, coolingSetEffect on setpoint s)

/-- COOLING SET (R69). -/
def reqCoolingSet (p : List Byte) (s : State) : Answer :=
  checked 3 p (decide (u8At p 0 ≤ 1)) s fun s =>
    let t := clampInt (-180) 100 (i16At p 1)
    let r := tryCooling (u8At p 0 == 1) t s
    if r.1 = .ok then done (accepted (t != i16At p 1)) r.2 else refuse r.1 s

/-- The payload of COOLING STATUS (R81; widths: R161; the width of the RUNNING time and the off
time left outside MIN_OFF: log 11). -/
def coolingPayload (s : State) : List Byte :=
  let c := s.cool
  let f := s.free
  encFlag (coolingFitted s) ++ encFlag c.on ++ natBytes 1 (coolingNumber c.state) ++ encI f 2 (boxTemp s) ++
    encValidity (sensorValid s .tsf) ++ encI f 2 c.setpoint ++ encI f 2 (effectiveSetpoint s) ++
    encU f 1 s.set.hysteresis.toNat ++ natBytes 1 (speedNumber c.step) ++ encU f 2 c.cspd ++
    encU f 4 (c.runSets / 100) ++
    natBytes 1 (match c.check with | .none => 0 | .pending => 1 | .passed => 2) ++
    encU f 1 (ceilDiv c.minOff 1000) ++ encU f 2 (ceilDiv c.offLeft 1000) ++ encU f 1 c.failures ++
    natBytes 1 (match c.fault with | .none => 0 | .noStart => 1 | .latched => 2) ++
    encBitByte
      [c.degraded, c.shed, c.stopPending, c.fallback, c.held, s.rsv.band == .critical || s.rsv.band == .cutoff,
       c.lidOpen, c.lidReported] ++
    encU f 2 (c.lidSets.getD 0 / 100)

/-- COOLING STATUS (R81). -/
def reqCoolingStatus (p : List Byte) (s : State) : Answer :=
  checked 0 p true s fun s => ⟨s, .ok, coolingPayload s⟩

end Sys2Proof.Machine
end

