-- ==== Sys2Proof/Machine/Stroke.lean ====
section
/-! DEFINITION. The compensated duty (R20) and the stroke trigger at the output stage (R21). -/

namespace Sys2Proof.Machine

/-- R20: the computed duty for a target effective voltage `vt` at a supply `vs`. -/
def compensatedDuty (vt vs : Nat) : Nat := if vt < vs then (1000 * vt ^ 2 + vs ^ 2 / 2) / vs ^ 2 else 1000

/-- R20: the compensation is saturated. -/
def compensationSaturated (vt vs : Nat) : Bool := decide (vs ≤ vt)

/-- The PUMP record with its duty changed at a phase boundary, without slew (R21). -/
def pumpDuty (d : Nat) (s : State) : State := s.setChan .pump { s.chan .pump with computed := d, applied := d }

/-- The state with the stroke fields replaced. -/
def State.setStroke (s : State) (k : Stroke) : State := { s with out := { s.out with stroke := k } }

/-- A pulse that begins at `t` ms takes its settings from the working copy (R21, R22). -/
def Pulse.begin (s : State) (t : Nat) : Pulse where
  start := t
  hitTime := s.set.tHit
  holdTime := s.set.tHold
  vHold := s.set.vHold
  startCurrent := s.set.startCurrent
  dip := s.set.dip
  phase := .hit
  readings := 0
  peak := 0
  exceeded := false
  dipSeen := false
  lowSupply := decide (s.meas.vbatF < 20000)

/-- R21: a stroke trigger of time `t` ms reaches the PUMP record: it starts a pulse, or is counted as an overlap, or
does nothing. -/
def strokeTrigger (t : Nat) (s : State) : State :=
  if (s.chan .pump).state = .driving ∧ (s.chan .pump).mode = .stroke then
    match s.out.stroke.pulse with
    | some _ => s.setStroke { s.out.stroke with overlaps := satSucc 255 s.out.stroke.overlaps }
    | none => pumpDuty 1000 (s.setStroke { s.out.stroke with pulse := some (Pulse.begin s t) })
  else s

end Sys2Proof.Machine
end

