-- ==== Sys2Proof/Machine/Heater.lean ====
section
/-! DEFINITION. The parking heater sequencer (chapter 3). -/

namespace Sys2Proof.Machine

/-! ### Views of the record -/

/-- The state numbers of Table 30. -/
def heaterNumber : HState → Nat
  | .off => 0 | .check => 1 | .glow => 2 | .prime => 3 | .ignition => 4 | .stabilise => 5 | .run => 6
  | .purge => 7 | .waitDemand => 8 | .lockout => 9

/-- The numbers of next (R63). -/
def nextNumber : Next → Nat
  | .off => 0 | .retry => 1 | .waitDemand => 2 | .lockout => 3

/-- PRIME, IGNITION, STABILISE or RUN: strokes fall due (R44). -/
def HState.dosing : HState → Bool
  | .prime => true | .ignition => true | .stabilise => true | .run => true
  | .off => false | .check => false | .glow => false | .purge => false | .waitDemand => false | .lockout => false

/-- CHECK or GLOW: a fault ends the start as a decline. -/
def HState.starting : HState → Bool
  | .check => true | .glow => true
  | .off => false | .prime => false | .ignition => false | .stabilise => false | .run => false | .purge => false
  | .waitDemand => false | .lockout => false

/-- OFF, WAIT_DEMAND or LOCKOUT: nothing is driven. -/
def HState.resting : HState → Bool
  | .off => true | .waitDemand => true | .lockout => true
  | .check => false | .glow => false | .prime => false | .ignition => false | .stabilise => false | .run => false
  | .purge => false

/-- The value of a HEATER_STATE notice: next in PURGE, the cause in LOCKOUT, else 0 (R63). -/
def Heater.noticeValue (h : Heater) : Int :=
  match h.state with
  | .purge =>
    match h.purge with
    | some p => nextNumber p.next
    | none => 0
  | .lockout => causeCode h.lockout.cause
  | _ => 0

/-- The HEATER_STATE notice (R63). -/
def postHeaterState (s : State) : State := post .heaterState (heaterNumber s.htr.state) s.htr.noticeValue s

/-! ### Demands by state (R38, Table 32) -/

/-- Table 32 for FAN, GLOW and PUMP; the heater demands nothing of the other consumers. -/
def heaterDemand (h : Heater) : Consumer → Mode × Option Nat
  | .fan =>
    match h.state with
    | .off | .waitDemand | .lockout => (.off, none)
    | .check | .glow | .prime | .ignition => (.duty, some h.startFan)
    | .stabilise | .run => (.duty, some h.stageFan)
    | .purge => (.duty, some h.purgeFan)
  | .glow =>
    match h.state with
    | .off | .waitDemand | .lockout | .run => (.off, none)
    | .check | .glow | .prime | .ignition => (.compensated, some h.glowTarget)
    | .stabilise => if h.glowOff then (.off, none) else (.compensated, some h.glowTarget)
    | .purge =>
      match h.purge with
      | some p => if p.burnOff && !h.glowOff then (.compensated, some h.glowTarget) else (.off, none)
      | none => (.off, none)
  | .pump => if h.state.dosing then (.stroke, none) else (.off, none)
  | _ => (.off, none)

/-- The demand of Table 32 is written for one consumer. -/
def writeHeaterDemand (c : Consumer) (s : State) : State :=
  demand c (heaterDemand s.htr c).1 (heaterDemand s.htr c).2 s

/-- The demands of Table 32 are written for FAN, GLOW and PUMP. -/
def writeHeaterDemands (s : State) : State :=
  writeHeaterDemand .pump (writeHeaterDemand .glow (writeHeaterDemand .fan s))

/-! ### Entering a state -/

/-- What the record keeps on entry to a state: stroke timing and the ramp only while strokes fall due, the purge record
only in PURGE, the run timer not in OFF and LOCKOUT, P_eff 0 in OFF, WAIT_DEMAND and LOCKOUT, the flame flag in STABILISE
and RUN (R44 to R47, R51, R52, R61); the maximum test of a former purge is no longer in force. In CHECK and GLOW
after a purge P_eff keeps its value (log 42). That the idle-off count goes to 0 with every entry, so that it does not outlast a
RUN, is the model's choice (log 76). -/
def Heater.entering (h : Heater) (st : HState) : Heater :=
  { h with
    state := st
    stateSets := 0
    glowOff := false
    purgeMaxed := false
    runSets := 0
    idleOff := 0
    flame := st == .stabilise || st == .run
    ramp := if st.dosing then h.ramp else none
    nextStroke := if st.dosing then h.nextStroke else none
    lastPeriod := if st.dosing then h.lastPeriod else none
    peff := if st.resting then 0 else h.peff
    purge := if st = .purge then h.purge else none
    runTimer := if st = .off ∨ st = .lockout then .absent else h.runTimer }

/-- A state is entered with a record: the demands of Table 32 are written and the notice of R63 is posted. -/
def enterHeater (st : HState) (h : Heater) (s : State) : State :=
  postHeaterState (writeHeaterDemands { s with htr := h.entering st })

/-- OFF is entered. -/
def enterOff (s : State) : State := enterHeater .off s.htr s

/-- CHECK is entered with its origin; the start fan duty and the glow target are taken (Table 42). -/
def enterCheck (o : Origin) (s : State) : State :=
  enterHeater .check
    { s.htr with origin := o, startFan := s.set.startFanDuty, glowTarget := s.set.glowTarget } s

/-- WAIT_DEMAND is entered with a restart wait in sets (R49). -/
def enterWait (wait : Nat) (s : State) : State := enterHeater .waitDemand { s.htr with restartWait := wait } s

/-- R61: LOCKOUT is entered. -/
def enterLockout (cause : Option Cause) (s : State) : State :=
  let l := { s.htr.lockout with flag := true, cause := cause, count := satSucc 255 s.htr.lockout.count }
  let s := requestPartWrite (enterHeater .lockout { s.htr with lockout := l } s)
  post .heaterLockout (causeCode cause).toNat l.count (requestAlert .heaterLockout s)

/-- R52: PURGE is entered with its record. -/
def enterPurge (p : Purge) (s : State) : State :=
  enterHeater .purge { s.htr with purge := some { p with sets := 0 }, purgeFan := s.set.purgeFanDuty, holdSets := 0 } s

/-- A purge of the given next, cause and burn-off, not suspended and not of full length. -/
def purgeTo (next : Next) (cause : Option Cause) (burnOff : Bool) : Purge := ⟨next, cause, burnOff, false, false, 0⟩

/-- The next of a running purge is set, with the cause when it is LOCKOUT; a change of next is posted (R52, R63). Once
it is LOCKOUT, the first cause stays. -/
def setNext (next : Next) (cause : Option Cause) (s : State) : State :=
  match s.htr.purge with
  | none => s
  | some p =>
    if p.next = .lockout ∨ p.next = next then s
    else postHeaterState { s with htr := { s.htr with purge := some { p with next := next, cause := cause } } }

/-! ### Starts and declines (R39 to R41) -/

/-- The reasons of Table 33, and 8 and 9 of R41. -/
inductive Decline where
  | supply | exchanger | cabSensor | reserve | channelLatched | fanOpen | glowResistance | glow | held
  deriving DecidableEq, Repr

/-- The numbers of the reasons. -/
def declineNumber : Decline → Nat
  | .supply => 1 | .exchanger => 2 | .cabSensor => 3 | .reserve => 4 | .channelLatched => 5 | .fanOpen => 6
  | .glowResistance => 7 | .glow => 8 | .held => 9

/-- R41: a start is declined. -/
def declineStart (why : Decline) (value : Int) (s : State) : State :=
  let s := if s.htr.origin = .waitDemand then enterWait 30000 s else enterOff s
  post .heaterDeclined (declineNumber why) value s

/-- The run timer of run minutes, 0 meaning UNLIMITED (R39). -/
def runTimerOf (minutes : Nat) : RunTimer := if minutes = 0 then .unlimited else .left (6000 * minutes)

/-- The arguments of an accepted start are stored, with two attempts and one restart (R39). -/
def Heater.withStart (h : Heater) (mode : HMode) (target : Int) (minutes stage : Nat) : Heater :=
  { h with
    mode := mode
    target := target
    fixedStage := stage
    attempts := 2
    restarts := 1
    runTimer := runTimerOf minutes }

/-- R39 after its own checks: a start is refused by the state, or accepted. -/
def tryStart (mode : HMode) (target : Int) (minutes stage : Nat) (s : State) : Result × State :=
  let h := s.htr.withStart mode target minutes stage
  if !heaterFitted s then (.notFitted, s)
  else
    match s.htr.state with
    | .lockout => (.locked, s)
    | .off => (.ok, enterCheck .off { s with htr := h })
    | .waitDemand => (.ok, enterCheck .waitDemand { s with htr := h })
    | .purge =>
      match s.htr.purge with
      | some p => if p.next = .off then (.ok, setNext .retry none { s with htr := h }) else (.wrongState, s)
      | none => (.wrongState, s)
    | .check | .glow | .prime | .ignition | .stabilise | .run => (.wrongState, s)

/-- The mean of the GLOW on-current history, summed over the halves of a pair (R41). -/
def glowMean (s : State) : Nat :=
  ((s.chan .glow).chans.map fun i => meanNat (channelGet s.meas.history i)).sum

/-- The glow resistance in mΩ; a mean of 0 mA is an open plug, reported as 32 767 (R41). -/
def glowResistance (s : State) : Nat := if glowMean s = 0 then 32767 else s.meas.vbatF * 1000 / glowMean s

/-- Condition 7 of Table 33. -/
def glowInWindow (s : State) : Bool :=
  glowMean s != 0 && decide (s.set.glowMin ≤ glowResistance s) && decide (glowResistance s ≤ s.set.glowMax)

/-- The first LATCHED of FAN, GLOW and PUMP. -/
def firstLatched (s : State) : Option Consumer :=
  [Consumer.fan, .glow, .pump].find? fun c => (s.chan c).state == .latched

/-- The first condition of Table 33 that fails, with the value of its notice. -/
def firstFailing (s : State) : Option (Decline × Int) :=
  if s.rsv.band ≠ .normal ∨ s.meas.vbatF < s.set.startSupply then some (.supply, 0)
  else if !sensorValid s .tsx || decide (1000 ≤ reported s .tsx) then some (.exchanger, reported s .tsx)
  else if s.htr.mode = .thermostat ∧ !sensorValid s .tsc then some (.cabSensor, 0)
  else if !heaterAdmission s then some (.reserve, 0)
  else
    match firstLatched s with
    | some c => some (.channelLatched, consumerNumber c)
    | none =>
      if (s.chan .fan).openLoad then some (.fanOpen, 0)
      else if !glowInWindow s then some (.glowResistance, min 32767 (glowResistance s))
      else none

/-- A duration of `sec` seconds from the entry of the present state is complete (R38). -/
def Heater.lasted (h : Heater) (sec : Nat) : Bool := decide (100 * sec ≤ h.stateSets)

/-- Meaning of CHECK_END (R41). -/
def execCheckEnd (s : State) : Host.Outcome State Fault Refusal :=
  s.live fun s =>
    whenDue (s.htr.state == .check && s.htr.lasted 2) s fun s =>
      match firstFailing s with
      | some (why, v) => declineStart why v s
      | none => enterHeater .glow { s.htr with stateLen := s.set.glowTime } s

/-! ### Stages, ramps and the thermostat (R45 to R49) -/

/-- The thermostat error e (R48). -/
def thermostatError (s : State) : Int := s.htr.target - s.meas.cabMean

/-- The stage of the band of Table 35 that holds e. -/
def bandStage (e : Int) : Nat := if 30 ≤ e then 4 else if 15 ≤ e then 3 else if 5 ≤ e then 2 else 1

/-- The down-change value of a stage (Table 35); stage 1 has none. -/
def downEdge : Nat → Option Int
  | 4 => some 27
  | 3 => some 12
  | 2 => some 2
  | _ => none

/-- The record takes a stage: the stage time restarts, a ramp starts and the fan duty is that of the stage (R45, R46). That
the stage time restarts also where HEATER SET or the restore of DEGRADE brings a fixed stage is log 66's. -/
def Heater.withStage (h : Heater) (w : Working) (n : Nat) : Heater :=
  { h with
    stage := n
    stageSets := 0
    ramp := some ⟨h.peff, w.stagePower n, 0⟩
    stageFan := w.stageFanDuty n
    idleOff := if n = 1 then h.idleOff else 0 }

/-- A stage change in RUN (R45, R48). -/
def changeStage (n : Nat) (s : State) : State :=
  writeHeaterDemand .fan { s with htr := s.htr.withStage s.set n }

/-- The HEATER DEGRADE step is applied (R59). -/
def heaterDegraded (s : State) : Bool := stepApplied s.rsv .heater .degrade

/-- A fixed stage becomes the stage, capped by DEGRADE, with a ramp if it differs (R50, R59). Both rules name the ramp only;
that the stage time restarts at 0 with the new stage is the model's choice (log 66). -/
def takeFixedStage (s : State) : State :=
  let n := if heaterDegraded s then 1 else s.htr.fixedStage
  if n = s.htr.stage then s else changeStage n s

/-- A pump fault in PRIME to RUN (R56). -/
def pumpFault (s : State) : State :=
  if s.htr.state.dosing then enterPurge (purgeTo .lockout (some .pump) false) s else s

/-- At entry to IGNITION or RUN, a PUMP open-load flag already set is a pump fault (R56). -/
def pumpOpenFound (s : State) : State := if (s.chan .pump).openLoad then pumpFault s else s

/-- Meaning of GLOW_END (R42): PRIME is entered. -/
def execGlowEnd (s : State) : Host.Outcome State Fault Refusal :=
  s.live fun s =>
    whenDue (s.htr.state == .glow && s.htr.lasted s.htr.stateLen) s fun s =>
      enterHeater .prime
        { s.htr with
          tRef := reported s .tsx
          peff := s.set.startPower
          ramp := none
          peakRing := []
          secMax := none
          secSets := 0
          nextStroke := some (nowMs s)
          lastPeriod := none } s

/-- Meaning of PRIME_END (R42). -/
def execPrimeEnd (s : State) : Host.Outcome State Fault Refusal :=
  s.live fun s =>
    whenDue (s.htr.state == .prime && s.htr.lasted 15) s fun s =>
      pumpOpenFound (enterHeater .ignition { s.htr with stateLen := s.set.ignitionWindow } s)

/-- The stage chosen at STABILISE entry (R46). -/
def stabiliseStage (s : State) : Nat :=
  match s.htr.mode with
  | .fixed => s.htr.fixedStage
  | .thermostat => if sensorValid s .tsc then bandStage (thermostatError s) else 1

/-- R46: flame; STABILISE is entered. -/
def flameDetected (s : State) : State :=
  enterHeater .stabilise (s.htr.withStage s.set (stabiliseStage s)) s

/-- R43: the ignition window expires. -/
def windowExpired (s : State) : State :=
  let left := s.htr.attempts - 1
  let s := { s with htr := { s.htr with attempts := left } }
  if 0 < left then enterPurge (purgeTo .retry none true) s
  else enterPurge (purgeTo .lockout (some .noFlame) true) s

/-- The ignition window has run out (R43). -/
def windowOver (s : State) : Bool := s.htr.state == .ignition && s.htr.lasted s.htr.stateLen

/-- Meaning of IGNITION_WINDOW_EXPIRY (R43). -/
def execIgnitionWindowExpiry (s : State) : Host.Outcome State Fault Refusal :=
  s.live fun s => whenDue (windowOver s) s windowExpired

/-- The pump period in ms for an effective power, clamped (R44). -/
def pumpPeriod (w : Working) (peff : Nat) : Nat :=
  clampNat (w.tHit + w.tHold + 50) 5000
    ((w.strokeVolume * w.fuelEnergy * 36 + peff * 5000) / (peff * 10000))

/-- A stroke falls due before the next sample set. -/
def strokeIsDue (s : State) : Bool :=
  match s.htr.nextStroke with
  | some t => decide (t < nowMs s + 10)
  | none => false

/-- Meaning of STROKE_DUE (R44): the next due time is set, and the trigger is handed over if FAN is DRIVING. -/
def execStrokeDue (s : State) : Host.Outcome State Fault Refusal :=
  s.live fun s =>
    match s.htr.nextStroke with
    | none => s
    | some t =>
      whenDue (s.htr.state.dosing && strokeIsDue s) s fun s =>
        let period := pumpPeriod s.set s.htr.peff
        let s := { s with htr := { s.htr with nextStroke := some (t + period), lastPeriod := some period } }
        if (s.chan .fan).state = .driving then strokeTrigger t s else s

/-- Meaning of PEFF_RAMP_END (R45). -/
def execPeffRampEnd (s : State) : Host.Outcome State Fault Refusal :=
  s.live fun s =>
    match s.htr.ramp with
    | none => s
    | some r =>
      whenDue (decide (20000 ≤ r.elapsed)) s fun s => { s with htr := { s.htr with peff := r.new, ramp := none } }

/-- The GLOW demand goes to OFF 30 s into a state (R38, R46). -/
def glowGoesOff (s : State) : State := writeHeaterDemand .glow { s with htr := { s.htr with glowOff := true } }

/-- Meaning of STABILISE_GLOW_OFF (R46). -/
def execStabiliseGlowOff (s : State) : Host.Outcome State Fault Refusal :=
  s.live fun s =>
    whenDue (s.htr.state == .stabilise && s.htr.lasted 30 && !s.htr.glowOff) s glowGoesOff

/-- Meaning of STABILISE_END (R46, R47): RUN is entered, the counts go up, the DEGRADE cap and the open-load check
follow. A fixed stage or mode that HEATER SET brought during STABILISE does not change the stage here (R48, R50;
log 40). At the set that completes the 60 s a flame-out or an overheat comes first, and then RUN is not entered and the
counts of R47 stand; the rules give no order, and this is the model's choice (log 58). Where the DEGRADE cap (R59) and a set
PUMP open-load flag (R56) meet at the entry, the cap comes first, so the purge that follows shows stage 1; the rules order
these two neither, and this is the model's choice (log 73). -/
def execStabiliseEnd (s : State) : Host.Outcome State Fault Refusal :=
  s.live fun s =>
    whenDue (s.htr.state == .stabilise && s.htr.lasted 60) s fun s =>
      let l := s.htr.lockout
      let l :=
        { l with
          starts := satSucc 65535 l.starts
          restarted := if s.htr.origin = .retry then satSucc 65535 l.restarted else l.restarted }
      let s := requestPartWrite (enterHeater .run { s.htr with lockout := l } s)
      pumpOpenFound (if heaterDegraded s && decide (1 < s.htr.stage) then changeStage 1 s else s)

/-- Meaning of RUN_TEN_MINUTES (R47); what ends RUN at the completing set comes first (log 58). -/
def execRunTenMinutes (s : State) : Host.Outcome State Fault Refusal :=
  s.live fun s =>
    whenDue (s.htr.state == .run && decide (60000 ≤ s.htr.runSets) && decide (0 < s.htr.lockout.count)) s fun s =>
      requestPartWrite { s with htr := { s.htr with lockout := { s.htr.lockout with count := 0 } } }

/-- The idle-off time after an evaluation with error e at the present stage (R49). -/
def Heater.countIdle (h : Heater) (e : Int) : Heater :=
  { h with idleOff := if h.stage = 1 ∧ e ≤ -15 then satSucc 300 h.idleOff else 0 }

/-- A stage change that is due at an evaluation (R48): an up-change not under DEGRADE, or a down-change. -/
def stageChangeDue (s : State) (e : Int) : Bool :=
  (decide (s.htr.stage < bandStage e) && !heaterDegraded s) ||
    (match downEdge s.htr.stage with
     | some edge => decide (e ≤ edge)
     | none => false)

/-- The run timer has time left (R49). -/
def Heater.timeLeft (h : Heater) : Bool :=
  match h.runTimer with
  | .unlimited => true
  | .left n => decide (0 < n)
  | .absent => false

/-- R48, R49: the thermostat is evaluated at a recomputation of the 10 s cab mean. -/
def thermostatEvaluation (s : State) : State :=
  let e := thermostatError s
  match s.htr.state, s.htr.mode with
  | .run, .thermostat =>
    if sensorValid s .tsc then
      let s := { s with htr := s.htr.countIdle e }
      if 6000 ≤ s.htr.stageSets ∧ stageChangeDue s e then changeStage (bandStage e) s else s
    else { s with htr := { s.htr with idleOff := 0 } }
  | .waitDemand, .thermostat =>
    if sensorValid s .tsc && s.htr.restartWait == 0 && s.htr.timeLeft && decide (10 ≤ e) then
      enterCheck .waitDemand s
    else s
  | _, _ => s

/-- Meaning of IDLE_OFF (R49); what else ends RUN at the completing set comes first (log 58). -/
def execIdleOff (s : State) : Host.Outcome State Fault Refusal :=
  s.live fun s =>
    whenDue (s.htr.state == .run && s.htr.mode == .thermostat && decide (300 ≤ s.htr.idleOff)) s
      (enterPurge (purgeTo .waitDemand none false))

/-- Meaning of RESTART_WAIT_EXPIRY (R49). -/
def execRestartWaitExpiry (s : State) : Host.Outcome State Fault Refusal :=
  s.live fun s =>
    whenDue (s.htr.state == .waitDemand && s.htr.mode == .fixed && s.htr.restartWait == 0 && s.htr.timeLeft) s
      (enterCheck .waitDemand)

/-! ### Stops and purges (R51 to R53) -/

/-- Table 38: a stop. -/
def stopHeater (s : State) : State :=
  match s.htr.state with
  | .check | .glow | .waitDemand => enterOff s
  | .prime | .ignition | .stabilise | .run => enterPurge (purgeTo .off none false) s
  | .purge => setNext .off none s
  | .off | .lockout => s

/-- Meaning of RUN_TIMER_EXPIRY (R51). -/
def execRunTimerExpiry (s : State) : Host.Outcome State Fault Refusal :=
  s.live fun s => whenDue (s.htr.runTimer == .left 0) s stopHeater

/-- Meaning of PURGE_BURN_OFF_END (R38). -/
def execPurgeBurnOffEnd (s : State) : Host.Outcome State Fault Refusal :=
  s.live fun s =>
    match s.htr.purge with
    | some p => whenDue (p.burnOff && decide (3000 ≤ p.sets) && !s.htr.glowOff) s glowGoesOff
    | none => s

/-- R53: the purge ends in its next. -/
def purgeEnds (p : Purge) (s : State) : State :=
  match p.next with
  | .off => enterOff s
  | .retry => enterCheck .retry s
  | .waitDemand => enterWait 0 s
  | .lockout => enterLockout p.cause s

/-- The end test of R53 passes. -/
def purgeTest (p : Purge) (s : State) : Bool :=
  !p.suspended && !p.fullLength && decide (100 * s.set.purgeMin ≤ p.sets) && sensorValid s .tsx &&
    decide (reported s .tsx < s.set.purgeCool)

/-- The purge end test at a sample set. -/
def purgeEndTest (s : State) : State :=
  match s.htr.purge with
  | some p => if purgeTest p s then purgeEnds p s else s
  | none => s

/-- The maximum test of R53: the purge time of a purge that is not suspended has reached the purge maximum. -/
def purgeAtMaximum (s : State) : Bool :=
  match s.htr.purge with
  | some p => !p.suspended && decide (100 * s.set.purgeMax ≤ p.sets)
  | none => false

/-- R53: the maximum test of a sample set, for a purge that its end test has left; PURGE_MAXIMUM follows where it holds
(log 57). -/
def purgeMaxTest (s : State) : State := { s with htr := { s.htr with purgeMaxed := purgeAtMaximum s } }

/-- Meaning of PURGE_MAXIMUM (R53): the maximum test of the last sample set held. A purge maximum written since then changes
nothing before the test of the next set; the full-length flag and the cause are those of this event (log 57). -/
def execPurgeMaximum (s : State) : Host.Outcome State Fault Refusal :=
  s.live fun s =>
    match s.htr.purge with
    | some p =>
      whenDue (s.htr.purgeMaxed && !p.suspended) s (enterLockout (if p.fullLength then p.cause else some .purgeHot))
    | none => s

/-! ### Faults in flight (R54 to R58) -/

/-- The highest entry of the exchanger peak ring. -/
def Heater.peak (h : Heater) : Option Int := h.peakRing.max?

/-- The flame-out test of R54. -/
def flameLost (s : State) : Bool :=
  (s.htr.state == .stabilise || s.htr.state == .run) && sensorValid s .tsx && decide (reported s .tsx < 1000) &&
    (match s.htr.peak with
     | some top => decide (reported s .tsx + 200 ≤ top)
     | none => false)

/-- R54: flame-out. -/
def flameOut (s : State) : State :=
  if 0 < s.htr.restarts then
    enterPurge (purgeTo .retry none true) { s with htr := { s.htr with restarts := 0, attempts := 2 } }
  else enterPurge (purgeTo .lockout (some .flameOut) true) s

/-- R55: the overheat test. -/
def overheated (s : State) : Bool :=
  (s.htr.state.dosing || s.htr.state == .purge) && sensorValid s .tsx &&
    decide (s.set.overheatLimit ≤ reported s .tsx)

/-- R55: overheat. -/
def overheat (s : State) : State :=
  if s.htr.state = .purge then setNext .lockout (some .overheat) s
  else enterPurge (purgeTo .lockout (some .overheat) false) s

/-- R55: a TSX transition to FAULT. -/
def exchangerFault (s : State) : State :=
  match s.htr.state with
  | .prime | .ignition | .stabilise | .run => enterPurge ⟨.lockout, some .sensor, false, false, true, 0⟩ s
  | .purge =>
    setNext .lockout (some .sensor)
      { s with htr := { s.htr with purge := s.htr.purge.map fun p => { p with fullLength := true } } }
  | .glow => declineStart .exchanger (reported s .tsx) s
  | .off | .check | .waitDemand | .lockout => s

/-- A latch of FAN, GLOW or PUMP (R56, R57). -/
def heaterLatched (c : Consumer) (s : State) : State :=
  match c with
  | .fan =>
    if s.htr.state.starting then declineStart .channelLatched (consumerNumber .fan) s
    else if s.htr.state.dosing || s.htr.state == .purge then enterLockout (some .fan) s
    else s
  | .pump =>
    if s.htr.state.starting then declineStart .channelLatched (consumerNumber .pump) s else pumpFault s
  | .glow =>
    match s.htr.state with
    | .check | .glow => declineStart .glow 0 s
    | .prime | .ignition =>
      post .heaterDeclined (declineNumber .glow) 0 (enterPurge (purgeTo .off none false) s)
    | _ => s
  | _ => s

/-- An open-load set event of the PUMP record (R56). -/
def heaterPumpOpen (s : State) : State :=
  if s.htr.state = .ignition ∨ s.htr.state = .run then pumpFault s else s

/-- R58: a hold of the output stage, with the cause it stands for; the hold time starts at 0 in every case. -/
def heaterHold (cause : Cause) (s : State) : State :=
  let s := { s with htr := { s.htr with holdSets := 0 } }
  match s.htr.state with
  | .off | .waitDemand | .lockout => s
  | .check | .glow => declineStart .held 0 s
  | .prime | .ignition | .stabilise | .run =>
    enterPurge ⟨.lockout, some cause, false, true, false, 0⟩ { s with htr := { s.htr with heldBy := cause } }
  | .purge =>
    { s with
      htr :=
        { s.htr with
          purge := s.htr.purge.map fun p => { p with suspended := true }
          heldBy := cause } }

/-- R58: the release of the hold. -/
def heaterRelease (s : State) : State :=
  { s with htr := { s.htr with purge := s.htr.purge.map fun p => { p with suspended := false } } }

/-- Meaning of HOLD_TIME_LIMIT (R58). A hold released at the very set at which the hold time reaches 60 s is released first,
inside SAMPLE_SET, so that no LOCKOUT follows; R58 gives no order, and this is the model's choice (log 58). -/
def execHoldTimeLimit (s : State) : Host.Outcome State Fault Refusal :=
  s.live fun s =>
    match s.htr.purge with
    | some p =>
      whenDue (p.suspended && decide (6000 ≤ s.htr.holdSets)) s
        (enterLockout (if p.next = .lockout then p.cause else some s.htr.heldBy))
    | none => s

/-! ### Degrade, shed and cutoff (R59, R60) -/

/-- R59: the DEGRADE step is applied or restored; the stack already shows it. -/
def heaterDegrade (on : Bool) (s : State) : State :=
  if s.htr.state = .run then
    if on then (if 1 < s.htr.stage then changeStage 1 s else s)
    else if s.htr.mode = .fixed then takeFixedStage s
    else s
  else s

/-- R60: the SHED step is applied, or the band enters CUTOFF. -/
def heaterShed (s : State) : State :=
  match s.htr.state with
  | .check | .glow | .waitDemand => enterOff s
  | .prime | .ignition => enterPurge (purgeTo .off none (s.htr.attempts == 1)) s
  | .stabilise | .run => enterPurge (purgeTo .off none false) s
  | .purge => setNext .off none s
  | .off | .lockout => s

/-! ### Panel key (R40) -/

/-- A KEY3 SHORT press (R40). -/
def key3Press (s : State) : State :=
  if !heaterFitted s then s
  else
    match s.htr.state with
    | .lockout => s
    | .off | .waitDemand => (tryStart .thermostat s.set.defaultTarget s.set.defaultRun s.htr.fixedStage s).2
    | .check | .glow | .prime | .ignition | .stabilise | .run | .purge => stopHeater s

/-! ### The sample set -/

/-- A ramp of P_eff 10 ms later (R45). -/
def PeffRamp.tick (r : PeffRamp) : PeffRamp := { r with elapsed := min 20000 (r.elapsed + 10) }

/-- P_eff on a ramp (R45). -/
def PeffRamp.power (r : PeffRamp) : Nat :=
  ((r.old : Int) + (((r.new : Int) - r.old) * r.elapsed).tdiv 20000).toNat

/-- The exchanger second under way takes the reported TSX value; at the 100th set its maximum enters the ring (R42). -/
def Heater.tickPeak (h : Heater) (tsx : Int) : Heater :=
  if h.state.dosing then
    let m := match h.secMax with
      | some x => max x tsx
      | none => tsx
    if 99 ≤ h.secSets then { h with peakRing := pushRing 120 h.peakRing m, secMax := none, secSets := 0 }
    else { h with secMax := some m, secSets := h.secSets + 1 }
  else h

/-- The times of the record one sample set later (R38); the hold time counts while the output stage is held
(Table 31). -/
def Heater.tick (h : Heater) (tsx : Int) (held : Bool) : Heater :=
  let rp := h.ramp.map PeffRamp.tick
  { h.tickPeak tsx with
    stateSets := h.stateSets + 1
    stageSets := if h.state = .stabilise ∨ h.state = .run then h.stageSets + 1 else h.stageSets
    runSets := if h.state = .run then h.runSets + 1 else h.runSets
    runTimer := match h.runTimer with
      | .left n => .left (n - 1)
      | .unlimited => .unlimited
      | .absent => .absent
    restartWait := h.restartWait - 1
    ramp := rp
    peff := match rp with
      | some r => r.power
      | none => h.peff
    purge := h.purge.map fun p => if p.suspended then p else { p with sets := p.sets + 1 }
    holdSets := if held then h.holdSets + 1 else h.holdSets }

/-- The heater's times at a sample set. -/
def heaterTick (s : State) : State :=
  { s with htr := s.htr.tick (reported s .tsx) (heaterFitted s && holding s) }

/-- The flame test of R43. -/
def flameSeen (s : State) : Bool :=
  s.htr.state == .ignition && sensorValid s .tsx && decide (s.htr.tRef + s.set.ignitionRise ≤ reported s .tsx)

/-- The tests of a sample set in the heater's state (R43, R53, R54, R55); `expiryFirst` takes an expiry of the ignition
window that falls on this set before the flame test. The maximum test of a purge comes last. -/
def heaterSet (expiryFirst : Bool) (s : State) : State :=
  let s :=
    match s.htr.state with
    | .ignition =>
      if expiryFirst && windowOver s then windowExpired s else if flameSeen s then flameDetected s else s
    | .stabilise | .run => if flameLost s then flameOut s else s
    | .purge => purgeEndTest s
    | .off | .check | .glow | .prime | .waitDemand | .lockout => s
  purgeMaxTest (if overheated s then overheat s else s)

/-! ### Requests (R39, R50, R51, R62, R63) -/

/-- The mode of a payload byte. -/
def heaterModeOf (n : Nat) : HMode := if n = 1 then .fixed else .thermostat

/-- HEATER START (R39). -/
def reqHeaterStart (p : List Byte) (s : State) : Answer :=
  checked 6 p (decide (u8At p 4 ≤ 1)) s fun s =>
    let t := clampInt 50 300 (i16At p 0)
    let r := runMinutes (u16At p 2)
    let g := clampNat 1 4 (u8At p 5)
    let (res, s') := tryStart (heaterModeOf (u8At p 4)) t r g s
    if res = .ok then done (accepted (t != i16At p 0 || r != u16At p 2 || g != u8At p 5)) s' else refuse res s

/-- HEATER STOP once checked: also the fired HEATER_STOP entry (R40, R51). -/
def tryStop (s : State) : Result × State := if heaterFitted s then (.ok, stopHeater s) else (.notFitted, s)

/-- HEATER STOP (R51). -/
def reqHeaterStop (p : List Byte) (s : State) : Answer :=
  checked 0 p true s fun s => done (tryStop s).1 (tryStop s).2

/-- The effect of new target, mode and stage in the present state (R50). -/
def heaterSetEffect (s : State) : State :=
  match s.htr.state, s.htr.mode with
  | .run, .fixed => takeFixedStage s
  | .waitDemand, .fixed => enterCheck .waitDemand s
  | _, _ => s

/-- HEATER SET (R50). -/
def reqHeaterSet (p : List Byte) (s : State) : Answer :=
  checked 4 p (decide (u8At p 2 ≤ 1)) s fun s =>
    if !heaterFitted s then refuse .notFitted s
    else if s.htr.state = .off ∨ s.htr.state = .lockout then refuse .wrongState s
    else
      let t := clampInt 50 300 (i16At p 0)
      let g := clampNat 1 4 (u8At p 3)
      done (accepted (t != i16At p 0 || g != u8At p 3))
        (heaterSetEffect { s with htr := { s.htr with target := t, mode := heaterModeOf (u8At p 2), fixedStage := g } })

/-- CLEAR HEATER LOCKOUT (R62). -/
def reqClearLockout (p : List Byte) (s : State) : Answer :=
  checked 0 p true s fun s =>
    if s.htr.state ≠ .lockout then refuse .wrongState s
    else
      let l := { s.htr.lockout with flag := false, cause := none }
      done .ok (enterOff (requestPartWrite { s with htr := { s.htr with lockout := l } }))

/-- The run minutes left: rounded up, 65 535 for UNLIMITED, 0 when absent (R63). -/
def runMinutesLeft : RunTimer → Nat
  | .absent => 0
  | .unlimited => 65535
  | .left n => ceilDiv n 6000

/-- The cause that HEATER STATUS shows (R63): that of the purge record in PURGE, else that of the lockout record
(log 41). -/
def Heater.shownCause (h : Heater) : Option Cause :=
  match h.purge with
  | some p => p.cause
  | none => h.lockout.cause

/-- A cause in one byte, 0xFF for none (R161). -/
def causeByte (c : Option Cause) : List Byte := natBytes 1 ((causeCode c) % 256).toNat

/-- The payload of HEATER STATUS (R63; widths: R161). Without a purge record its three flags and its time are sent as 0
(log 48). -/
def heaterPayload (s : State) : List Byte :=
  let h := s.htr
  let f := s.free
  let p := h.purge.getD ⟨.off, none, false, false, false, 0⟩
  encFlag (heaterFitted s) ++ natBytes 1 (heaterNumber h.state) ++ natBytes 1 (if h.mode = .fixed then 1 else 0) ++
    encI f 2 h.target ++ encU f 1 h.fixedStage ++ encU f 1 h.stage ++ encU f 2 h.peff ++
    encU f 2 (h.lastPeriod.getD 0) ++ encI f 2 (reported s .tsx) ++ encValidity (sensorValid s .tsx) ++
    encI f 2 h.tRef ++ encU f 1 h.attempts ++ encU f 1 h.restarts ++ encU f 2 (runMinutesLeft h.runTimer) ++
    (match h.purge with | some p => natBytes 1 (nextNumber p.next) | none => [0xFF]) ++ causeByte h.shownCause ++
    encFlag p.burnOff ++ encFlag p.suspended ++ encFlag p.fullLength ++ encU f 2 (p.sets / 100) ++
    encU f 1 h.lockout.count ++ encU f 2 h.lockout.starts ++ encU f 2 h.lockout.restarted

/-- HEATER STATUS (R63). -/
def reqHeaterStatus (p : List Byte) (s : State) : Answer :=
  checked 0 p true s fun s => ⟨s, .ok, heaterPayload s⟩

end Sys2Proof.Machine
end

