-- ==== Sys2Proof/Machine/Output.lean ====
section
/-! DEFINITION. The output stage (chapter 2): trips, latches, retries, stroke pulses, open load, holds, slew and slot
values, its reports to the owners, and its two requests. -/

namespace Sys2Proof.Machine

/-! ### Reports to the owners (Table 27) -/

/-- A trip is handed to the owner (R57, R74, R100). -/
def reportTrip (c : Consumer) (s : State) : State := if c = .compressor then coolingTrip s else s

/-- A latch is handed to the owner (R56, R57, R74, R100). -/
def reportLatch (c : Consumer) (s : State) : State :=
  match c with
  | .fan | .glow | .pump => heaterLatched c s
  | .compressor => coolingLatch s
  | .bunkLower => lightLatched .lower s
  | .bunkUpper => lightLatched .upper s
  | .chime => lightLatched .chime s

/-- A cleared record is handed to the owner, which writes its demand again (R57, R74, R100). -/
def reportCleared (c : Consumer) (s : State) : State :=
  match c with
  | .fan | .glow | .pump => writeHeaterDemand c s
  | .compressor => coolingCleared s
  | .bunkLower => writeLevel .lower s
  | .bunkUpper => writeLevel .upper s
  | .chime => writeLevel .chime s

/-! ### Overcurrent and trips (R26 to R28) -/

/-- A pulse in progress is cut (R21). The saturated flag of the record stands (R20; log 37). A cut at a sample set comes
before the end of a hit phase that falls on that set, so the pulse has no outcome (R22; log 39). -/
def Stroke.cut (k : Stroke) : Stroke := { k with pulse := none, onTime := 0 }

/-- The stroke fields after the record of a consumer has left DRIVING. -/
def cutFor (c : Consumer) (s : State) : State := if c = .pump then s.setStroke s.out.stroke.cut else s

/-- The computed duty of a record that leaves DRIVING: a stroke pulse asks for nothing more. -/
def ChanRec.idleDuty (r : ChanRec) : Nat := if r.mode = .stroke then 0 else r.computed

/-- R27, R28 on one record: a trip at the present seconds counter. -/
def ChanRec.trip (r : ChanRec) (now : Nat) : ChanRec :=
  let r :=
    match r.windowStart with
    | none => { r with trips := 1, windowStart := some now }
    | some _ => { r with trips := satSucc 4 r.trips }
  let r := { r with computed := r.idleDuty, applied := 0 }
  if r.trips < 4 then { r with state := .tripped, retry := some 1000 } else { r with state := .latched, retry := none }

/-- An overcurrent on the DRIVING record of a consumer (R27, R28). -/
def overcurrent (c : Consumer) (s : State) : State :=
  let s := cutFor c (s.setChan c ((s.chan c).trip s.tmr.seconds))
  let s := if c = .compressor then switchOff s else s
  if (s.chan c).state = .latched then reportLatch c (post .channelFault 1 (consumerNumber c) s)
  else reportTrip c (post .channelFault 0 (consumerNumber c) s)

/-- Some half of a DRIVING record reads 9 000 mA or more (R26, R27). -/
def overcurrentSeen (c : Consumer) (s : State) : Bool :=
  (s.chan c).state == .driving &&
    (s.chan c).chans.any fun i => decide (9000 ≤ channelGet s.meas.onCurrent i)

/-- The overcurrent judgement of a sample set (R27). That two records at 9 000 mA or more in one set are judged in consumer
order, and that what the owner does at the first acts before the second is judged, is the model's choice (log 54). -/
def overcurrents (s : State) : State :=
  allConsumers.foldl (fun s c => if overcurrentSeen c s then overcurrent c s else s) s

/-- The state that a record enters when its retry or its hold is over (R27, R32). -/
def ChanRec.resumed (r : ChanRec) : ChanRec :=
  { r with state := if r.mode = .off then .off else .driving, applied := 0, retry := none }

/-- Meaning of RETRY_EXPIRY (R27). -/
def execRetryExpiry (c : Consumer) (s : State) : Host.Outcome State Fault Refusal :=
  s.live fun s =>
    whenDue ((s.chan c).state == .tripped && (s.chan c).retry == some 0) s fun s => s.setChan c (s.chan c).resumed

/-- The trip window has been open for 60 s (R28). -/
def windowDue (c : Consumer) (s : State) : Bool :=
  match (s.chan c).windowStart with
  | some t => decide (t + 60 ≤ s.tmr.seconds)
  | none => false

/-- Meaning of TRIP_WINDOW_CLOSE (R28). -/
def execTripWindowClose (c : Consumer) (s : State) : Host.Outcome State Fault Refusal :=
  s.live fun s =>
    whenDue (windowDue c s) s fun s => s.setChan c { s.chan c with trips := 0, windowStart := none }

/-! ### Open load (R29) -/

/-- The open-load flag of a consumer is set or cleared and the notice is posted (R29, R23). -/
def setOpenLoad (c : Consumer) (on : Bool) (s : State) : State :=
  post .openLoad (if on then 1 else 0) (consumerNumber c) (s.setChan c { s.chan c with openLoad := on })

/-- Meaning of OPEN_LOAD_SET (R29); a hold that begins at the completing set comes first (log 38). -/
def execOpenLoadSet (c : Consumer) (s : State) : Host.Outcome State Fault Refusal :=
  s.live fun s =>
    whenDue (c != .pump && decide (50 ≤ (s.chan c).lowRun) && !(s.chan c).openLoad) s (setOpenLoad c true)

/-- Meaning of OPEN_LOAD_CLEAR (R29); a hold that begins at the completing set comes first (log 38). -/
def execOpenLoadClear (c : Consumer) (s : State) : Host.Outcome State Fault Refusal :=
  s.live fun s =>
    whenDue (c != .pump && decide (50 ≤ (s.chan c).highRun) && (s.chan c).openLoad) s (setOpenLoad c false)

/-- The on-current of a record: the sum of its halves (R26). -/
def onCurrentOf (c : Consumer) (s : State) : Nat :=
  ((s.chan c).chans.map fun i => channelGet s.meas.onCurrent i).sum

/-- R29 on one record at a sample set, with the applied duty in force during the set (log 20). -/
def ChanRec.openRuns (r : ChanRec) (c : Consumer) (threshold duty current : Nat) : ChanRec :=
  if c = .pump ∨ (r.mode ≠ .duty ∧ r.mode ≠ .compensated) ∨ r.state ≠ .driving ∨ duty < 200 then
    { r with lowRun := 0, highRun := 0 }
  else if current < threshold then { r with lowRun := satSucc 50 r.lowRun, highRun := 0 }
  else { r with lowRun := 0, highRun := satSucc 50 r.highRun }

/-! ### Stroke pulses (R21 to R24) -/

/-- The end of the hit phase in ms. -/
def Pulse.hitEnd (p : Pulse) : Nat := p.start + p.hitTime

/-- The end of the pulse in ms. -/
def Pulse.pulseEnd (p : Pulse) : Nat := p.start + p.hitTime + p.holdTime

/-- The ms of the present phase that lie between `lo` and `hi`. -/
def Pulse.phaseMs (p : Pulse) (lo hi : Nat) : Nat :=
  match p.phase with
  | .hit => min hi p.hitEnd - max lo p.start
  | .hold => min hi p.pulseEnd - max lo p.hitEnd

/-- The on-time in µs of `ms` ms of the present phase at a duty in ‰ (R24). -/
def Pulse.onTimeOf (p : Pulse) (duty ms : Nat) : Nat :=
  match p.phase with
  | .hit => ms * 1000
  | .hold => duty * (ms * 1000) / 1000

/-- A fast reading in mA enters the verification of a pulse (R22). -/
def Pulse.reading (p : Pulse) (x : Nat) : Pulse :=
  { p with
    readings := p.readings + 1
    peak := max p.peak x
    exceeded := p.exceeded || decide (p.startCurrent < x)
    dipSeen := p.dipSeen || (p.exceeded && decide (x + p.dip ≤ p.peak)) }

/-- The outcome of R22. -/
def Pulse.outcome (p : Pulse) : Outcome :=
  if !p.exceeded then .noCurrent else if p.lowSupply then .unverified else if p.dipSeen then .confirmed else .missed

/-- Meaning of PUMP_FAST_READING (R3, R22, R27): a reading of the hit phase, 5 mA per step. -/
def execPumpFastReading (raw : Raw) (s : State) : Host.Outcome State Fault Refusal :=
  s.live fun s =>
    match s.out.stroke.pulse with
    | none => s
    | some p =>
      whenDue (p.phase == .hit && (s.chan .pump).state == .driving && decide (p.readings < 2 * p.hitTime)) s fun s =>
        let x := 5 * raw.toNat
        let s := s.setStroke { s.out.stroke with pulse := some (p.reading x) }
        if 9000 ≤ x then overcurrent .pump s else s

/-- The miss count and the stroke fault flag after an outcome, and whether a stroke fault event is handed on (R23). -/
def Stroke.judged (k : Stroke) (o : Outcome) : Stroke × Bool :=
  let miss :=
    match o with
    | .missed => satSucc 255 k.miss
    | .confirmed => 0
    | .unverified => k.miss
    | .noCurrent => k.miss
  let fault := o == .missed && miss == 3 && !k.fault
  ({ k with last := some o, miss := miss, fault := k.fault || fault }, fault)

/-- The stroke-mode open load of R23: the flag, its notice, and the report to the heater. -/
def strokeOpenLoad (o : Outcome) (s : State) : State :=
  match o with
  | .noCurrent => if (s.chan .pump).openLoad then s else heaterPumpOpen (setOpenLoad .pump true s)
  | .confirmed | .missed | .unverified => if (s.chan .pump).openLoad then setOpenLoad .pump false s else s

/-- R23: an outcome updates the PUMP record and reaches the heater. A MISSED outcome that brings the miss count to 3 with the
open-load flag set clears the flag and posts OPEN_LOAD (CLEAR) first, and hands the stroke fault event on after it; R23 names
the stroke fault first but gives no order, so this is the model's choice (log 65). -/
def strokeOutcome (o : Outcome) (s : State) : State :=
  let j := s.out.stroke.judged o
  let s := strokeOpenLoad o (s.setStroke j.1)
  if j.2 then pumpFault s else s

/-- The pulse goes from hit to hold: the compensated duty for V_hold (R21), the on-time of the hit so far (R24). That its
saturated flag is judged here too, at the VBAT_F in force, and not at the next update first, is log 37's (R20). -/
def beginHold (p : Pulse) (s : State) : State :=
  let d := compensatedDuty p.vHold s.meas.vbatF
  let k := s.out.stroke
  let k :=
    { k with
      pulse := some { p with phase := .hold }
      onTime := k.onTime + p.onTimeOf 1000 (p.phaseMs (nowMs s) (nowMs s + 10)) }
  let s := pumpDuty d (s.setStroke k)
  s.setChan .pump { s.chan .pump with saturated := compensationSaturated p.vHold s.meas.vbatF }

/-- Meaning of HIT_PHASE_END (R21, R22): due once the next sample set lies behind the end of the phase; a set at that very
ms that trips or holds the record cuts the pulse first (log 39). -/
def execHitPhaseEnd (s : State) : Host.Outcome State Fault Refusal :=
  s.live fun s =>
    match s.out.stroke.pulse with
    | none => s
    | some p =>
      whenDue (p.phase == .hit && decide (p.hitEnd < nowMs s + 10)) s fun s =>
        strokeOutcome p.outcome (beginHold p s)

/-- Meaning of HOLD_PHASE_END (R21). The saturated flag of the pulse stands (R20; log 37). -/
def execHoldPhaseEnd (s : State) : Host.Outcome State Fault Refusal :=
  s.live fun s =>
    match s.out.stroke.pulse with
    | none => s
    | some p =>
      whenDue (p.phase == .hold && decide (p.pulseEnd < nowMs s + 10)) s fun s =>
        let k := s.out.stroke
        let t := k.onTime + p.onTimeOf (s.chan .pump).applied (p.phaseMs (nowMs s) (nowMs s + 10))
        pumpDuty 0 (s.setStroke { k with pulse := none, onTime := t })

/-! ### Slot values and means (R24, R25) -/

/-- The on-time in µs of the PUMP record in the set that ends now (R24). -/
def strokeOnTime (s : State) : Nat :=
  let k := s.out.stroke
  match k.pulse with
  | none => k.onTime
  | some p => k.onTime + p.onTimeOf (s.chan .pump).applied (p.phaseMs (nowMs s - 10) (nowMs s))

/-- The on-time in µs of a record in the set that ends now, with the duty in force during it (R24). -/
def onTime (c : Consumer) (s : State) : Nat :=
  if (s.chan c).state ≠ .driving then 0
  else
    match (s.chan c).mode with
    | .off => 0
    | .duty => (s.chan c).applied * 10000 / 1000
    | .compensated => (s.chan c).applied * 10000 / 1000
    | .stroke => min 10000 (strokeOnTime s)

/-- The slot value of a record in mA (R24). -/
def slotValue (c : Consumer) (s : State) : Nat := onCurrentOf c s * onTime c s / 10000

/-- The slot values of a set enter the slot sums (R24). -/
def slots (s : State) : State :=
  { s with
    out :=
      { s.out with
        recs := s.out.recs.mapC fun c r => { r with slotSum := r.slotSum + slotValue c s }
        stroke := { s.out.stroke with onTime := 0 } } }

/-- A record at the end of a second: the slot sum becomes the one-second mean and enters the ring (R24, R25). -/
def ChanRec.second (r : ChanRec) : ChanRec :=
  { r with secMean := r.slotSum / 100, slotSum := 0, ring60 := pushRing 60 r.ring60 (r.slotSum / 100) }

/-- The one-second means of all records (R24). -/
def oneSecondMeans (s : State) : State :=
  { s with out := { s.out with recs := s.out.recs.mapC fun _ r => r.second } }

/-- The 60 s mean of a record (R25). -/
def mean60 (r : ChanRec) : Nat := meanNat r.ring60

/-! ### Open-load runs, duties and slew (R19, R20, R29) -/

/-- The open-load runs of a set that began with the records of `before` (R29). -/
def openRunsSet (before : State) (s : State) : State :=
  { s with
    out := { s.out with
      recs := s.out.recs.mapC fun c r =>
        r.openRuns c (s.set.openThreshold c) (before.chan c).applied (onCurrentOf c s) } }

/-- R20 on one record at a VBAT_F update. -/
def ChanRec.compensate (r : ChanRec) (vs : Nat) : ChanRec :=
  match r.mode with
  | .compensated =>
    { r with
      computed := compensatedDuty (r.demand.getD 0) vs
      saturated := compensationSaturated (r.demand.getD 0) vs }
  | _ => r

/-- The hold phase of a stroke at a VBAT_F update (R20, R21). -/
def compensateHold (s : State) : State :=
  match s.out.stroke.pulse with
  | some p =>
    match p.phase with
    | .hold =>
      let s := pumpDuty (compensatedDuty p.vHold s.meas.vbatF) s
      s.setChan .pump { s.chan .pump with saturated := compensationSaturated p.vHold s.meas.vbatF }
    | .hit => s
  | none => s

/-- The compensated drive at a VBAT_F update (R20). -/
def compensateSet (s : State) : State :=
  compensateHold { s with out := { s.out with recs := s.out.recs.mapC fun _ r => r.compensate s.meas.vbatF } }

/-- A duty moved toward another by at most a limit (R19). -/
def slewed (limit target present : Nat) : Nat :=
  if present < target then min target (present + limit) else max target (present - limit)

/-- The retry waits of a sample set (R27). -/
def retryTick (s : State) : State :=
  { s with out := { s.out with recs := s.out.recs.mapC fun _ r => { r with retry := countDown r.retry } } }

/-- R19 on one record at a sample set. -/
def ChanRec.slew (r : ChanRec) (limit : Nat) : ChanRec :=
  match r.state, r.mode with
  | .driving, .duty => { r with applied := slewed limit r.computed r.applied }
  | .driving, .compensated => { r with applied := slewed limit r.computed r.applied }
  | _, _ => r

/-- The slew of every record at a sample set. -/
def slewSet (s : State) : State :=
  { s with out := { s.out with recs := s.out.recs.mapC fun c r => r.slew (s.set.slewLimit c) } }

/-! ### Holds (R30 to R32) -/

/-- R32 on one record when the first hold begins. The runs of R29 go to 0, also one that reached 50 at this set: its
OPEN_LOAD_SET or OPEN_LOAD_CLEAR is then never due (log 38). -/
def ChanRec.hold (r : ChanRec) : ChanRec :=
  if !r.chans.isEmpty && (r.state == .off || r.state == .driving || r.state == .tripped) then
    { r with state := .held, computed := r.idleDuty, applied := 0, retry := none, lowRun := 0, highRun := 0 }
  else r

/-- The first hold becomes active: every record, then the owners of fitted consumers (R32). -/
def holdBegins (cause : Cause) (s : State) : State :=
  let s := if (s.chan .compressor).state = .driving then switchOff s else s
  let s :=
    { s with out := { s.out with recs := s.out.recs.mapC fun _ r => r.hold, stroke := s.out.stroke.cut } }
  let s := if heaterFitted s then heaterHold cause s else s
  if coolingFitted s then coolingHold s else s

/-- R32 on one record at the release. -/
def ChanRec.release (r : ChanRec) : ChanRec := if r.state = .held then r.resumed else r

/-- The last hold ends: every record, then the owners (R32). -/
def holdEnds (s : State) : State :=
  let s := { s with out := { s.out with recs := s.out.recs.mapC fun _ r => r.release } }
  let s := if heaterFitted s then heaterRelease s else s
  if coolingFitted s then coolingRelease s else s

/-- A hold that stands with thresholds: active at `enter`, inactive at `leave`, else as it was. -/
def judgedHold (enter leave was : Bool) : Bool := if enter then true else if leave then false else was

/-- The two holds take new values; the first to become active begins the hold, the last to end releases it. -/
def withHolds (floor thermal : Bool) (cause : Cause) (s : State) : State :=
  let was := holding s
  let s := { s with out := { s.out with floorHold := floor, thermalHold := thermal } }
  if !was && holding s then holdBegins cause s else if was && !holding s then holdEnds s else s

/-- The supply floor judgement at a VBAT_F update (R30). -/
def judgeFloor (s : State) : State :=
  withHolds (judgedHold (decide (s.meas.vbatF < 16000)) (decide (17000 ≤ s.meas.vbatF)) s.out.floorHold)
    s.out.thermalHold .supplyLost s

/-- The thermal judgement at a sample set (R31). -/
def judgeThermal (s : State) : State :=
  withHolds s.out.floorHold
    (judgedHold (decide (1500 ≤ s.meas.dieReported)) (decide (s.meas.dieReported < 1350)) s.out.thermalHold)
    .thermal s

/-! ### Requests (R33 to R35) -/

/-- The mode numbers, in the order of Table 19. -/
def modeNumber : Mode → Nat
  | .off => 0 | .duty => 1 | .compensated => 2 | .stroke => 3

/-- The state numbers, in the order of Table 20. -/
def recStateNumber : RecState → Nat
  | .off => 0 | .driving => 1 | .tripped => 2 | .latched => 3 | .held => 4

/-- The numbers of the last stroke outcome, in the order of R33 (log 12). -/
def outcomeNumber : Option Outcome → Nat
  | none => 0 | some .confirmed => 1 | some .missed => 2 | some .unverified => 3 | some .noCurrent => 4

/-- The fault bit of a consumer in the summary byte (R33). -/
def consumerFault (s : State) (c : Consumer) : Bool :=
  (s.chan c).state == .tripped || (s.chan c).state == .latched || (s.chan c).openLoad ||
    (c == .pump && s.out.stroke.fault)

/-- One record in the CHANNEL STATUS payload (R33; widths: R161). -/
def recordBytes (s : State) (c : Consumer) : List Byte :=
  let r := s.chan c
  let f := s.free
  (match r.chans with
   | i :: _ => natBytes 1 i.val
   | [] => [0xFF]) ++
    encFlag (decide (2 ≤ r.chans.length)) ++ natBytes 1 (modeNumber r.mode) ++
    (match r.demand with
     | some v => encU f 2 v
     | none => [0xFF, 0xFF]) ++
    encU f 2 r.computed ++ encU f 2 r.applied ++ natBytes 1 (recStateNumber r.state) ++ encU f 1 r.trips ++
    encU f 2 (r.retry.getD 0) ++ encFlag r.openLoad ++ encFlag r.saturated ++ encU f 2 r.secMean ++
    encU f 2 (mean60 r) ++
    (if c = .pump then
      natBytes 1 (outcomeNumber s.out.stroke.last) ++ encU f 1 s.out.stroke.miss ++ encFlag s.out.stroke.fault ++
        encU f 1 s.out.stroke.overlaps
     else [])

/-- The CHANNEL STATUS payload (R33). -/
def channelPayload (s : State) : List Byte :=
  encBitByte (allConsumers.map (consumerFault s)) ++ allConsumers.flatMap (recordBytes s) ++
    encBitByte [s.out.floorHold, s.out.thermalHold]

/-- CHANNEL STATUS (R33). -/
def reqChannelStatus (p : List Byte) (s : State) : Answer :=
  checked 0 p true s fun s => ⟨s, .ok, channelPayload s⟩

/-- R35 on one LATCHED record. -/
def ChanRec.cleared (r : ChanRec) (holding : Bool) : ChanRec :=
  { r with
    state := if holding then .held else .off
    mode := .off
    demand := none
    computed := 0
    saturated := false
    trips := 0
    windowStart := none }

/-- A LATCHED record is taken out of its latch (R35). -/
def clearLatch (c : Consumer) (s : State) : State :=
  reportCleared c
    (post .channelClear 0 (consumerNumber c) (s.setChan c ((s.chan c).cleared (holding s))))

/-- CLEAR CHANNEL FAULT (R35), checked in the order of that rule. R35 gives the wrong length of Section 0.6.3 no place among its
three checks; that BAD_LENGTH comes first is the model's choice (log 75). -/
def reqClearChannelFault (p : List Byte) (s : State) : Answer :=
  if p.length ≠ 1 then refuse .badLength s
  else
    match consumerOf (u8At p 0) with
    | none => refuse .badField s
    | some c =>
      if !fitted s c then refuse .notFitted s
      else if s.settling then refuse .notReady s
      else done .ok (if (s.chan c).state = .latched then clearLatch c s else s)

end Sys2Proof.Machine
end

