-- ==== Sys2Proof/Machine/Firing.lean ====
section
/-! DEFINITION. The firing of timer entries (R133, Table 76), the move orders that may fire one (R135), and EXTEND REST
(R117). -/

namespace Sys2Proof.Machine

/-- A heater start handed over by an entry, in THERMOSTAT mode with the fixed stage held (R40). -/
def firedStart (target : Int) (minutes : Nat) (s : State) : Result × State :=
  if s.settling then (.notReady, s) else tryStart .thermostat target minutes s.htr.fixedStage s

/-- The owner performs an entry's action and returns a result code (Table 76). -/
def performAction (a : Action) (s : State) : Result × State :=
  match a with
  | .heaterStart t r => firedStart t r s
  | .heaterStop => if s.settling then (.notReady, s) else tryStop s
  | .coolingOn => tryCooling true s.cool.setpoint s
  | .coolingOff => tryCooling false s.cool.setpoint s
  | .lightLevel l v r => trySetLight l v r s
  | .alert pat => (.ok, requestBetween pat s)
  | .wake => (.ok, wakeFired s)
  | .restEnd => (.ok, restEndFired s)
  | .prewarm =>
    match s.duty.session.bind (·.prewarm) with
    | some w => firedStart w.target s.set.defaultRun s
    | none => (.ok, s)

/-- The table after the firing of an entry: a WEEKLY entry is re-armed, any other is removed (R133). -/
def Timer.fired (t : Timer) (e : Entry) : Timer :=
  match e.form with
  | .weekly _ _ => t.put (t.arm e)
  | .onceAt _ => t.remove e.id
  | .after _ => t.remove e.id
  | .linked => t.remove e.id

/-- R133: an entry fires. -/
def fireEntry (e : Entry) (s : State) : State :=
  let r := performAction e.action { s with tmr := s.tmr.fired e }
  post .timerFired (resultCode r.1) e.id r.2

/-- An entry's due time is at or before the seconds counter. -/
def Entry.isDue (e : Entry) (now : Nat) : Bool :=
  match e.due with
  | some due => decide (due ≤ now)
  | none => false

/-- The first entry that the check of the last timer second found due and that is still due (R133, log 34). -/
def Timer.nextFiring (t : Timer) : Option Entry :=
  (t.firing.filterMap t.find).find? fun e => e.isDue t.seconds

/-- Meaning of TIMER_ENTRY_FIRE (R133). It comes after the duty second of the same increment; R124 leaves the two without an
order, and this is the model's choice (log 74). -/
def execTimerEntryFire (s : State) : Host.Outcome State Fault Refusal :=
  s.live fun s =>
    match s.tmr.nextFiring with
    | some e => fireEntry e s
    | none => s

/-! ### Move orders and EXTEND REST (R117, R135) -/

/-- Move: a linked entry still present gets a new due time, and fires at once where that is past (R135). -/
def moveLinked (id due : Nat) (s : State) : State :=
  let s := moveDue id due s
  match s.tmr.find id with
  | some e => if e.isDue s.tmr.seconds then fireEntry e s else s
  | none => s

/-- The linked entries still present are moved for a session's planned end, in ascending id (R117). -/
def moveEntries (x : Session) (s : State) : State :=
  moveLinked 242 x.planEnd
    (moveLinked 241 (x.dueBefore ((x.prewarm.map (·.lead)).getD 0)) (moveLinked 240 (x.dueBefore x.wakeLead) s))

/-- The session's record is replaced. -/
def withSession (x : Session) (s : State) : State := { s with duty := { s.duty with session := some x } }

/-- EXTEND REST (R117). -/
def reqExtendRest (p : List Byte) (s : State) : Answer :=
  checked 2 p true s fun s =>
    match s.duty.session with
    | none => refuse .wrongState s
    | some old =>
      let len := clampNat 15 720 (u16At p 0)
      let x := { old with planned := len }
      let answer (s : State) : Answer := ⟨s, accepted (len != u16At p 0), encU s.free 4 x.planEnd⟩
      match old.state with
      | .active => answer (moveEntries x (withSession x s))
      | .due =>
        if x.planEnd ≤ s.tmr.seconds then answer (withSession x s)
        else if 10 ≤ s.tmr.table.length then refuse .noRoom s
        else answer (createLinked 242 .restEnd x.planEnd (withSession { x with state := .active } s))

end Sys2Proof.Machine
end

