-- ==== Sys2Proof/Machine/Measure.lean ====
section
/-! DEFINITION. The measurement unit (chapter 1): scaling, filters, sensor judgement, debounce, key classification, and
READ MEASUREMENTS. -/

namespace Sys2Proof.Machine

/-! ### Conversion (R4) -/

/-- The temperature in 0.1 °C of a sensor input in mV (Table 9). -/
def sensorTemp (x : Sensor) (v : Nat) : Int :=
  match x with
  | .tsc => v - 500
  | .tsf => v - 500
  | .tsx => (((v : Int) - 400) * 5).tdiv 2

/-- The window of a sensor in mV, both bounds included (Table 9). -/
def sensorWindow : Sensor → Nat × Nat
  | .tsc => (100, 1750) | .tsf => (100, 1750) | .tsx => (240, 1400)

/-- The reading is below, in or above the window. -/
def belowWindow (x : Sensor) (v : Nat) : Bool := decide (v < (sensorWindow x).1)
def inWindow (x : Sensor) (v : Nat) : Bool := decide ((sensorWindow x).1 ≤ v) && decide (v ≤ (sensorWindow x).2)

/-- The sensor numbers of R7. -/
def sensorNumber : Sensor → Nat
  | .tsc => 0 | .tsx => 1 | .tsf => 2

/-! ### Sensors at a sample set (R5, R7) -/

/-- The filter, runs and reported value of a sensor after a set that read `v` mV. -/
def SensorState.sample (d : SensorState) (x : Sensor) (v : Nat) : SensorState :=
  if inWindow x v then
    let f := pushRing 8 d.filter (sensorTemp x v)
    { d with
      filter := f
      outRun := 0
      inRun := satSucc 255 d.inRun
      reported := if d.validity = .fault then d.reported else meanInt f }
  else { d with outRun := satSucc 255 d.outRun, inRun := 0, lastLow := belowWindow x v }

/-- The blocks that depend on a sensor hear of its FAULT (R55, R79, R49). -/
def sensorFaulted (x : Sensor) (s : State) : State :=
  match x with
  | .tsc => { s with htr := { s.htr with idleOff := 0 } }
  | .tsx => exchangerFault s
  | .tsf => fallbackSet s

/-- The SENSOR_FAULT notice (R7). -/
def postSensorFault (x : Sensor) (s : State) : State :=
  post .sensorFault (if (s.meas.sensor x).lastLow then 0 else 1) (sensorNumber x) s

/-- The state with a sensor's validity set. -/
def setValidity (x : Sensor) (v : Validity) (s : State) : State :=
  { s with meas := s.meas.setSensor x { s.meas.sensor x with validity := v } }

/-- Meaning of SENSOR_FAULT (R7): the reported value stands as held. It comes after the set that completes the run; the
tests of that set see the sensor as it was (log 47). -/
def execSensorFault (x : Sensor) (s : State) : Host.Outcome State Fault Refusal :=
  s.live fun s =>
    whenDue ((s.meas.sensor x).validity == .valid && decide (3 ≤ (s.meas.sensor x).outRun)) s fun s =>
      sensorFaulted x (postSensorFault x (setValidity x .fault s))

/-- The reported value becomes the filtered value. -/
def unhold (x : Sensor) (s : State) : State :=
  { s with
    meas := s.meas.setSensor x { s.meas.sensor x with reported := meanInt (s.meas.sensor x).filter } }

/-- Meaning of SENSOR_OK (R7), after the set that completes the run (log 47). -/
def execSensorOk (x : Sensor) (s : State) : Host.Outcome State Fault Refusal :=
  s.live fun s =>
    whenDue ((s.meas.sensor x).validity == .fault && decide (10 ≤ (s.meas.sensor x).inRun)) s fun s =>
      let s := post .sensorOk 0 (sensorNumber x) (unhold x (setValidity x .valid s))
      if x = .tsf then fallbackCleared s else s

/-- The judgement of a sensor at the end of settling (R8). -/
def judgeSensor (x : Sensor) (s : State) : State :=
  if 0 < (s.meas.sensor x).inRun then setValidity x .valid s
  else
    let s := postSensorFault x (setValidity x .fault s)
    if x = .tsf then fallbackSet s else s

/-! ### Debounce and keys (R9 to R12) -/

/-- A debounced input after a set: the count of differing sets, up to the debounce count (R9); the first set after a
reset gives the level without a debounce. -/
def Debounce.sample (d : Debounce) (first raw : Bool) (need : Nat) : Debounce :=
  if first then ⟨raw, 0⟩ else { d with count := if raw = d.level then 0 else satSucc need d.count }

/-- The hold time runs while a key is held and classified (R10). -/
def KeyState.tick (k : KeyState) : KeyState :=
  match k.cls with
  | .held | .longGiven | .repeating => { k with hold := k.hold + 10 }
  | .idle | .ignored => k

/-- A key after a set; its raw level is low when pressed (Table 12). -/
def KeyState.sample (k : KeyState) (first low : Bool) : KeyState :=
  { k.tick with deb := k.deb.sample first low 3 }

/-- The key numbers of R13. -/
def keyNumber : Key → Nat
  | .key0 => 0 | .key1 => 1 | .key2 => 2 | .key3 => 3 | .key4 => 4

/-- The class numbers of R13. -/
def pressNumber : Press → Nat
  | .short => 1 | .long => 2 | .repeated => 3

/-- A classified press is handed to the owner of the key (Table 13). -/
def handPress (k : Key) (p : Press) (s : State) : State :=
  match k, p with
  | .key3, .short => key3Press s
  | .key4, .long => key4Long s
  | .key0, _ => panelKey .key0 p s
  | .key1, _ => panelKey .key1 p s
  | .key2, _ => panelKey .key2 p s
  | _, _ => s

/-- A press is classified: the KEY notice, then the owner (R13). -/
def classify (k : Key) (p : Press) (s : State) : State :=
  handPress k p (post .key 0 (16 * (pressNumber p : Int) + keyNumber k) s)

/-- The state of a key. -/
def State.key (s : State) (k : Key) : KeyState := keyGet s.meas.keys k

/-- The state with a key replaced. -/
def State.setKey (s : State) (k : Key) (v : KeyState) : State :=
  { s with meas := { s.meas with keys := keySet s.meas.keys k v } }

/-- KEY1 and KEY2 repeat while held (R12). -/
def repeats : Key → Bool
  | .key1 => true | .key2 => true | .key0 => false | .key3 => false | .key4 => false

/-- The hold time in ms at which a held key is classified LONG or REPEAT (R11, R12). -/
def threshold (k : Key) : Nat := if repeats k then 800 else 2000

/-- A LONG press is due (R11). -/
def longDue (k : Key) (s : State) : Bool :=
  !repeats k && (s.key k).cls == .held && decide (2000 ≤ (s.key k).hold)

/-- The LONG press (R11). -/
def longPress (k : Key) (s : State) : State := classify k .long (s.setKey k { s.key k with cls := .longGiven })

/-- Meaning of KEY_LONG_PRESS (R11). -/
def execKeyLongPress (k : Key) (s : State) : Host.Outcome State Fault Refusal :=
  s.live fun s => whenDue (longDue k s) s (longPress k)

/-- A REPEAT is due (R12). -/
def repeatDue (k : Key) (s : State) : Bool :=
  repeats k &&
    ((s.key k).cls == .held && decide (800 ≤ (s.key k).hold) ||
      (s.key k).cls == .repeating && decide ((s.key k).nextRepeat ≤ (s.key k).hold))

/-- A REPEAT (R12). -/
def repeatPress (k : Key) (s : State) : State :=
  let next := if (s.key k).cls = .held then 900 else (s.key k).nextRepeat + 100
  classify k .repeated (s.setKey k { s.key k with cls := .repeating, nextRepeat := next })

/-- Meaning of KEY_REPEAT (R12). -/
def execKeyRepeat (k : Key) (s : State) : Host.Outcome State Fault Refusal :=
  s.live fun s => whenDue (repeatDue k s) s (repeatPress k)

/-- The press event of a key; before the end of settling it is not classified (R10). -/
def keyPressed (k : Key) (s : State) : State :=
  let v := { s.key k with deb := ⟨true, 0⟩ }
  if s.settling then s.setKey k v
  else s.setKey k (if v.cls = .idle then { v with cls := .held, hold := 0, nextRepeat := 800 } else v)

/-- The release event of a key (R10 to R12). A LONG or REPEAT that is due at the same set comes first (log 24). -/
def keyReleased (k : Key) (s : State) : State :=
  let s := if longDue k s then longPress k s else if repeatDue k s then repeatPress k s else s
  let short := (s.key k).cls == .held
  let s := s.setKey k { s.key k with deb := ⟨false, 0⟩, cls := .idle, hold := 0 }
  if short then classify k .short s else s

/-- The cooling controller follows the lid: cooling is fitted, or the map that will say so is not yet loaded (R75). -/
def followsLid (s : State) : Bool := coolingFitted s || decide (s.sys.loads < 10)

/-- A change of the lid level is handed to the cooling controller (R75). -/
def lidChanged (isOpen : Bool) (s : State) : State :=
  if followsLid s then (if isOpen then lidOpened s else lidClosed s) else s

/-- Meaning of DEBOUNCE_CHANGE (R9): a debounce count is complete and the debounced level changes. -/
def debounceChanged (x : Input) (s : State) : State :=
  match x with
  | .ign =>
    whenDue (s.meas.ign.count == 50) s fun s =>
      let on := !s.meas.ign.level
      let s := { s with meas := { s.meas with ign := ⟨on, 0⟩ } }
      if on then ignitionOn s else ignitionOff s
  | .lid =>
    whenDue (s.meas.lid.count == 10) s fun s =>
      let open' := !s.meas.lid.level
      let s := { s with meas := { s.meas with lid := ⟨open', 0⟩ } }
      lidChanged open' s
  | .key k =>
    whenDue ((s.key k).deb.count == 3) s fun s =>
      if (s.key k).deb.level then keyReleased k s else keyPressed k s

/-- Meaning of DEBOUNCE_CHANGE. -/
def execDebounceChange (x : Input) (s : State) : Host.Outcome State Fault Refusal := s.live (debounceChanged x)

/-- A key at the end of settling: pressed, it is IGNORED (R10). -/
def KeyState.ignoreHeld (k : KeyState) : KeyState := if k.deb.level then { k with cls := .ignored } else k

/-- The keys at the end of settling (R10). -/
def ignoreHeldKeys (k : PerKey KeyState) : PerKey KeyState :=
  ⟨k.key0.ignoreHeld, k.key1.ignoreHeld, k.key2.ignoreHeld, k.key3.ignoreHeld, k.key4.ignoreHeld⟩

/-! ### The members of a sample set (R1 to R3, R5, R6) -/

/-- A record whose channels had an on-phase in the set that ends: DRIVING, with duty or a pulse (R3). -/
def onPhase (s : State) (c : Consumer) : Bool :=
  (s.chan c).state == .driving &&
    (match (s.chan c).mode with
     | .off => false
     | .duty => decide (0 < (s.chan c).applied)
     | .compensated => decide (0 < (s.chan c).applied)
     | .stroke => decide (0 < strokeOnTime s))

/-- A channel had an on-phase in the set that ends. -/
def channelOn (s : State) (i : Channel) : Bool := allConsumers.any fun c => (s.chan c).chans.contains i && onPhase s c

/-- The on-current of a channel in mA: 5 mA per step, 0 without an on-phase (R3). -/
def scaledCurrent (s : State) (raw : PerChannel Raw) (i : Channel) : Nat :=
  if channelOn s i then 5 * (channelGet raw i).toNat else 0

/-- The supply members of a set (R2). -/
def Meas.sampleSupply (m : Meas) (raw : Raw) : Meas :=
  let ring := pushRing 16 m.vbatRing (10 * raw.toNat)
  { m with vbatRing := ring, vbatF := meanNat ring }

/-- The currents of a set and their histories (R3). -/
def Meas.sampleCurrents (m : Meas) (now : PerChannel Nat) : Meas :=
  { m with
    onCurrent := now
    history := channelsBy fun i => pushRing 100 (channelGet m.history i) (channelGet now i) }

/-- The sensors of a set and the die (R4, R5). -/
def Meas.sampleSensors (m : Meas) (r : RawSet) : Meas :=
  let die := pushRing 8 m.dieFilter ((r.die.toNat : Int) - 500)
  { m with
    tsc := m.tsc.sample .tsc r.tsc.toNat
    tsx := m.tsx.sample .tsx r.tsx.toNat
    tsf := m.tsf.sample .tsf r.tsf.toNat
    dieFilter := die
    dieReported := meanInt die }

/-- The TSC value that a set reports: in FAULT the held value, but at the set that completes the run of ten, which moves
the sensor to VALID, the filtered value (R7, Table 11). SENSOR_OK, due from that set on, changes the validity. -/
def Meas.cabReading (m : Meas) : Int :=
  if m.tsc.validity = .fault ∧ 10 ≤ m.tsc.inRun then meanInt m.tsc.filter else m.tsc.reported

/-- The cab second at a set: the running sum, and at every 100th set the one-second mean, the ring of ten and the 10 s cab
mean, which before the first is the reported TSC (R6). -/
def Meas.sampleCab (m : Meas) : Meas :=
  let sum := m.secSum + m.cabReading
  if m.sets % 100 = 0 then
    let ring := pushRing 10 m.cabRing (sum.tdiv 100)
    { m with secSum := 0, cabRing := ring, cabMean := meanInt ring }
  else { m with secSum := sum, cabMean := if m.cabRing.isEmpty then m.cabReading else m.cabMean }

/-- The discrete inputs of a set (R9); a key is pressed when its raw level is low. -/
def Meas.sampleInputs (m : Meas) (r : RawSet) : Meas :=
  let first := m.sets == 1
  { m with
    ign := m.ign.sample first r.ign 50
    lid := m.lid.sample first r.lid 10
    keys :=
      ⟨m.keys.key0.sample first !r.keys.key0, m.keys.key1.sample first !r.keys.key1,
       m.keys.key2.sample first !r.keys.key2, m.keys.key3.sample first !r.keys.key3,
       m.keys.key4.sample first !r.keys.key4⟩ }

/-- The measurement unit at a sample set (R1). -/
def measure (r : RawSet) (s : State) : State :=
  let s := { s with meas := { s.meas with sets := s.meas.sets + 1 } }
  let m := s.meas.sampleCurrents (channelsBy (scaledCurrent s r.current))
  { s with meas := (((m.sampleSupply r.vbat).sampleSensors r).sampleCab).sampleInputs r }

/-- A lid open at the first set is open for the cooling controller from that set on, its timer at 0 (R75, R9). -/
def lidAtStart (s : State) : State := if s.meas.sets = 1 ∧ s.meas.lid.level then lidChanged true s else s

/-! ### READ MEASUREMENTS (R14) -/

/-- The payload of READ MEASUREMENTS, 28 bytes. -/
def measurePayload (s : State) : List Byte :=
  let f := s.free
  let m := s.meas
  encU f 2 m.vbatF ++ encI f 2 m.tsc.reported ++ encI f 2 m.cabMean ++ encI f 2 m.tsx.reported ++
    encI f 2 m.tsf.reported ++ encI f 2 m.dieReported ++
    encBitByte [sensorValid s .tsc, sensorValid s .tsx, sensorValid s .tsf] ++
    encBitByte
      [m.ign.level, m.lid.level, m.keys.key0.deb.level, m.keys.key1.deb.level, m.keys.key2.deb.level,
       m.keys.key3.deb.level, m.keys.key4.deb.level] ++
    allConsumers.flatMap fun c => encU f 2 (s.chan c).secMean

/-- READ MEASUREMENTS (R14). -/
def reqReadMeasurements (p : List Byte) (s : State) : Answer :=
  checked 0 p true s fun s => ⟨s, .ok, measurePayload s⟩

end Sys2Proof.Machine
end

