-- ==== Sys2Proof/Machine/Reserve.lean ====
section
/-! DEFINITION. The reserve account (chapter 8): charge state, accounting second, shed ladder, voltage bands, and its
four requests. -/

namespace Sys2Proof.Machine

/-! ### Charge state (R137, R138) -/

/-- The supply of this update speaks for the other charge state (R137). -/
def chargeTurns (charging : Bool) (vbatF : Nat) : Bool :=
  if charging then decide (vbatF < 25600) else decide (26400 ≤ vbatF)

/-- The charge run and the CHARGING spell at a VBAT_F update (R137). -/
def Reserve.chargeTick (r : Reserve) (vbatF : Nat) : Reserve :=
  { r with
    chargeRun := if chargeTurns r.charging vbatF then satSucc 3000 r.chargeRun else 0
    spell := if r.charging then satSucc 6553500 r.spell else 0 }

/-- R138: the account is refilled; `detail` is 0 for a charge and 1 for RESET ACCOUNT. -/
def refill (detail : Nat) (s : State) : State :=
  post .accountRefilled detail (s.rsv.drawn / 100 : Nat) { s with rsv := { s.rsv with drawn := 0, rem := 0 } }

/-- Meaning of CHARGE_STATE_CHANGE (R137, R138). -/
def execChargeStateChange (s : State) : Host.Outcome State Fault Refusal :=
  s.live fun s =>
    whenDue (decide (3000 ≤ s.rsv.chargeRun)) s fun s =>
      let r := s.rsv
      let s := { s with rsv := { r with charging := !r.charging, chargeRun := 0, spell := 0 } }
      if r.charging && decide (120000 ≤ r.spell) then refill 0 s else s

/-! ### The ladder (R145, R146) -/

/-- The 60 s mean of a ladder consumer; HEATER stands for FAN, GLOW and PUMP together (R145). -/
def ladderMean (c : LadderConsumer) (s : State) : Nat :=
  match c with
  | .compressor => mean60 (s.chan .compressor)
  | .bunkLower => mean60 (s.chan .bunkLower)
  | .bunkUpper => mean60 (s.chan .bunkUpper)
  | .heater => mean60 (s.chan .fan) + mean60 (s.chan .glow) + mean60 (s.chan .pump)

/-- A step is handed to the owner of its consumer (R145; R59, R60, R76, R77, R97, R98). The owner sets its degraded or shed
flag for a consumer that is not fitted too, though R144 gives it nothing to carry out there: the flag mirrors the ladder, and
LIGHT STATUS and COOLING STATUS show it, which is the model's choice (log 70). -/
def handStep (st : LadderStep) (s : State) : State :=
  match st.consumer, st.action with
  | .heater, .degrade => heaterDegrade true s
  | .heater, .shed => heaterShed s
  | .compressor, .degrade => coolingDegrade true s
  | .compressor, .shed => coolingShed s
  | .bunkLower, .degrade => lightDegrade .lower true s
  | .bunkLower, .shed => lightShed .lower s
  | .bunkUpper, .degrade => lightDegrade .upper true s
  | .bunkUpper, .shed => lightShed .upper s

/-- The restore of a step is handed to the owner (R146). -/
def handRestore (st : LadderStep) (s : State) : State :=
  match st.consumer, st.action with
  | .heater, .degrade => heaterDegrade false s
  | .heater, .shed => s
  | .compressor, .degrade => coolingDegrade false s
  | .compressor, .shed => coolingUnshed s
  | .bunkLower, .degrade => lightDegrade .lower false s
  | .bunkLower, .shed => lightUnshed .lower s
  | .bunkUpper, .degrade => lightDegrade .upper false s
  | .bunkUpper, .shed => lightUnshed .upper s

/-- The causes of Table 83. -/
inductive StepCause where
  | projection | reserveEmpty | bandLow | bandCritical | bandCutoff
  deriving DecidableEq, Repr

/-- The details of Table 83. -/
def stepCauseCode : StepCause → Nat
  | .projection => 0 | .reserveEmpty => 1 | .bandLow => 2 | .bandCritical => 3 | .bandCutoff => 4

/-- L is below the ladder length. -/
def ladderRoom (r : Reserve) : Bool := decide (r.stack.length < r.ladder.length)

/-- R145: step L + 1 is applied. -/
def applyStep (cause : StepCause) (s : State) : State :=
  match s.rsv.ladder[s.rsv.stack.length]? with
  | none => s
  | some st =>
    let n := s.rsv.stack.length + 1
    let s :=
      { s with
        rsv :=
          { s.rsv with
            stack := s.rsv.stack ++ [⟨n, s.tmr.seconds, ladderMean st.consumer s⟩]
            lastChange := s.tmr.seconds
            restoreHold := 0 } }
    post .shedStep (stepCauseCode cause) n (handStep st s)

/-- `k` steps are applied in ladder order, without an alert. -/
def applySteps (cause : StepCause) : Nat → State → State
  | 0, s => s
  | k + 1, s => applySteps cause k (applyStep cause s)

/-- Every step from L + 1 to the ladder length is applied, without an alert. -/
def applyRest (cause : StepCause) (s : State) : State :=
  applySteps cause (s.rsv.ladder.length - s.rsv.stack.length) s

/-- Steps applied in one event that requests the RESERVE_STEP alert once (R145). -/
def applyAlerted (f : State → State) (s : State) : State :=
  if ladderRoom s.rsv then requestAlert .reserveStep (f s) else s

/-- R146: step L is restored. -/
def restoreStep (s : State) : State :=
  match s.rsv.ladder[s.rsv.stack.length - 1]? with
  | none => s
  | some st =>
    let n := s.rsv.stack.length
    let s :=
      { s with rsv := { s.rsv with stack := s.rsv.stack.dropLast, lastChange := s.tmr.seconds, restoreHold := 0 } }
    post .restoreStep 0 n (handRestore st s)

/-- Meaning of RESTORE_STEP (R146, R148). The band is looked at once more here: a BAND_CHANGE out of NORMAL that is due at
the same set and taken first leaves no restore, though the accounting second saw the band of before (log 55). This is the
model's choice (log 63). -/
def execRestoreStep (s : State) : Host.Outcome State Fault Refusal :=
  s.live fun s =>
    whenDue (decide (300 ≤ s.rsv.restoreHold) && s.rsv.band == .normal && decide (0 < s.rsv.stack.length)) s restoreStep

/-- The seconds since the last ladder change. -/
def sinceChange (s : State) : Nat := s.tmr.seconds - s.rsv.lastChange

/-- Meaning of LOW_PACE_STEP (R150). The 30 s are judged by the seconds counter of this event, so a timer second given between
the accounting second and this event counts toward them, which is the model's choice (log 56). -/
def execLowPaceStep (s : State) : Host.Outcome State Fault Refusal :=
  s.live fun s =>
    whenDue (s.rsv.accounted && s.rsv.band == .low && ladderRoom s.rsv && decide (30 ≤ sinceChange s)) s
      (applyAlerted (applyStep .bandLow))

/-! ### The accounting second (R141 to R143, R147, R148) -/

/-- I_tot (R141). -/
def totalCurrent (s : State) : Nat :=
  min 200000 ((allConsumers.map fun c => (s.chan c).secMean).sum + s.rsv.external + 35)

/-- D and Q after a second at a current (R141). -/
def Reserve.draw (r : Reserve) (i : Nat) : Reserve :=
  if r.charging then r
  else
    let q := r.rem + i
    let d := r.drawn + q / 3600
    if 999999 < d then { r with drawn := 999999, rem := 3599 } else { r with drawn := d, rem := q % 3600 }

/-- T_left for a remaining reserve and a mean current (R142, R148). -/
def minutesLeft (reserve current : Nat) : Nat := if current = 0 then 5999 else min 5999 (reserve * 60 / current)

/-- H in minutes (R143). -/
def horizonNow (s : State) : Nat :=
  match s.duty.session with
  | some x =>
    match x.state with
    | .active => ceilDiv (x.start + x.planned * 60 - s.tmr.seconds) 60
    | .due => s.set.idleHorizon
  | none => s.set.idleHorizon

/-- The first three parts of the accounting second (R141 to R143). -/
def account (s : State) : State :=
  let i := totalCurrent s
  let r := s.rsv.draw i
  let ring := pushRing 60 r.ring i
  let avg := meanNat ring
  { s with
    rsv :=
      { r with
        iTot := i
        ring := ring
        iAvg := avg
        tLeft := minutesLeft (remaining r) avg
        horizon := some (horizonNow s)
        accounted := true } }

/-- H as shown: the idle horizon before the first accounting second (R155). Until then it is the field of the working copy as
it stands, so one written in that time shows at once, though Table 86 gives the field its effect at the next accounting
second; which one is shown is the model's choice (log 61). -/
def shownHorizon (s : State) : Nat := s.rsv.horizon.getD s.set.idleHorizon

/-- The projection test of R147. -/
def projectionHolds (s : State) : Bool :=
  decide (s.rsv.tLeft < shownHorizon s) && decide (0 < shownHorizon s) && (s.rsv.band == .normal || s.rsv.band == .low) &&
    decide (120 ≤ sinceChange s)

/-- The restore test of R148 for the top record of the stack. -/
def restoreHolds (s : State) : Bool :=
  match s.rsv.stack.getLast?, s.rsv.ladder[s.rsv.stack.length - 1]? with
  | some top, some st =>
    let i := max s.rsv.iAvg (s.rsv.iAvg + top.draw - ladderMean st.consumer s)
    let h := shownHorizon s
    decide (0 < remaining s.rsv) &&
      (h == 0 || decide (h * 5 / 4 ≤ minutesLeft (remaining s.rsv) i))
  | _, _ => false

/-- The last part of an accounting second: the restore hold (R148). -/
def keepRestoreHold (s : State) : State :=
  { s with
    rsv :=
      { s.rsv with
        restoreHold :=
          if s.rsv.band = .normal ∧ 0 < s.rsv.stack.length ∧ restoreHolds s = true then satSucc 300 s.rsv.restoreHold
          else 0 } }

/-- The accounting second (R141 to R143, R147, R148). -/
def accountingSecond (s : State) : State :=
  let s := account s
  if ladderRoom s.rsv && remaining s.rsv == 0 then applyAlerted (applyRest .reserveEmpty) s
  else if ladderRoom s.rsv && projectionHolds s then applyAlerted (applyStep .projection) s
  else keepRestoreHold s

/-! ### The voltage guard (R149 to R151) -/

/-- A run count: one more while its condition holds, else 0; it is kept in some bands only. -/
def runOf (kept holds : Bool) (top n : Nat) : Nat := if kept && holds then satSucc top n else 0

/-- The leave threshold of a band (Table 84). -/
def leaveThreshold (w : Working) : Band → Option Nat
  | .normal => none | .low => some w.lowLeave | .critical => some w.criticalLeave | .cutoff => some w.cutoffLeave

/-- The band runs at a VBAT_F update (R149). -/
def Reserve.bandTick (r : Reserve) (w : Working) (v : Nat) : Reserve :=
  { r with
    lowRun := runOf (r.band == .normal) (decide (v < w.lowEnter)) 3000 r.lowRun
    criticalRun := runOf (r.band == .normal || r.band == .low) (decide (v < w.criticalEnter)) 1000 r.criticalRun
    cutoffRun := runOf (r.band != .cutoff) (decide (v < w.cutoffEnter)) 500 r.cutoffRun
    leaveRun :=
      match leaveThreshold w r.band with
      | some t => runOf true (decide (t ≤ v)) 6000 r.leaveRun
      | none => 0 }

/-- The band one up (Table 84). -/
def bandUp : Band → Band
  | .cutoff => .critical | .critical => .low | .low => .normal | .normal => .normal

/-- The band that a completed run enters; of two deeper bands the deeper one (R149). -/
def Reserve.nextBand (r : Reserve) : Option Band :=
  if 500 ≤ r.cutoffRun then some .cutoff
  else if 1000 ≤ r.criticalRun then some .critical
  else if 3000 ≤ r.lowRun then some .low
  else if 6000 ≤ r.leaveRun then some (bandUp r.band)
  else none

/-- The band is handed to the owners (R60, R78, R99, R149, R151): the light unit takes the alert request before or after
the setting of the cutoff hold. -/
def bandToOwners (old new : Band) (alertFirst : Bool) (s : State) : State :=
  match new with
  | .normal => s
  | .low => s
  | .critical => coolingBandStop (if old = .cutoff then cutoffCleared s else s)
  | .cutoff =>
    let s := heaterShed (coolingBandStop s)
    if alertFirst then cutoffSet (requestAlert .cutoff s) else requestAlert .cutoff (cutoffSet s)

/-- The ladder at a band entry (R150, R151). -/
def bandLadder (old new : Band) (s : State) : State :=
  match new with
  | .normal => s
  | .low => if ladderRoom s.rsv && old != .low then applyAlerted (applyStep .bandLow) s else s
  | .critical => applyAlerted (applyRest .bandCritical) s
  | .cutoff => applyRest .bandCutoff s

/-- R149 to R151: the band changes. -/
def enterBand (new : Band) (bandFirst alertFirst : Bool) (s : State) : State :=
  let old := s.rsv.band
  let s :=
    { s with
      rsv :=
        { s.rsv with
          band := new
          lowRun := 0
          criticalRun := 0
          cutoffRun := 0
          leaveRun := 0
          cutoffHold := new == .cutoff } }
  let s := post .bandChange (bandCode new) (bandCode old) s
  if bandFirst then bandLadder old new (bandToOwners old new alertFirst s)
  else bandToOwners old new alertFirst (bandLadder old new s)

/-- Meaning of BAND_CHANGE (R149 to R151, R169). -/
def execBandChange (bandFirst alertFirst : Bool) (s : State) : Host.Outcome State Fault Refusal :=
  s.live fun s =>
    match s.rsv.nextBand with
    | some b => withStretch s (enterBand b bandFirst alertFirst s)
    | none => s

/-! ### Requests (R138 to R140, R153) -/

/-- RESET ACCOUNT (R138). -/
def reqResetAccount (p : List Byte) (s : State) : Answer := checked 0 p true s fun s => done .ok (refill 1 s)

/-- SET ALLOWANCE (R139). -/
def reqSetAllowance (p : List Byte) (s : State) : Answer :=
  checked 4 p true s fun s =>
    let a := clampNat 5000 400000 (u32At p 0)
    done (accepted (a != u32At p 0)) { s with rsv := { s.rsv with allowance := a } }

/-- SET EXTERNAL DRAW (R140). -/
def reqSetExternalDraw (p : List Byte) (s : State) : Answer :=
  checked 2 p true s fun s =>
    let i := clampNat 0 30000 (u16At p 0)
    done (accepted (i != u16At p 0)) { s with rsv := { s.rsv with external := i } }

/-- The payload of RESERVE STATUS (R153; widths: R161). In DISCHARGING the CHARGING spell is sent as 0 (log 53). -/
def reservePayload (s : State) : List Byte :=
  let r := s.rsv
  let f := s.free
  encFlag r.charging ++ encU f 2 (r.spell / 100) ++ encU f 4 r.allowance ++ encU f 4 r.drawn ++
    encU f 4 (remaining r) ++ encU f 2 r.rem ++ encU f 2 r.external ++ encU f 4 r.iTot ++ encU f 4 r.iAvg ++
    encU f 1 r.ring.length ++ encU f 2 r.tLeft ++ encU f 2 (shownHorizon s) ++ natBytes 1 (bandCode r.band) ++
    encBitByte [r.cutoffHold, stepApplied r .heater .shed, stepApplied r .compressor .shed] ++
    encU f 1 r.ladder.length ++ encU f 1 r.stack.length ++ encU f 2 r.restoreHold ++
    encU f 2 (min 65535 (sinceChange s)) ++
    (r.ladder.flatMap fun st => natBytes 1 (ladderCode st.consumer) ++ natBytes 1 (ladderActionCode st.action)) ++
    r.stack.flatMap fun x => encU f 1 x.step ++ encU f 4 x.time ++ encU f 4 x.draw

/-- RESERVE STATUS (R153). -/
def reqReserveStatus (p : List Byte) (s : State) : Answer :=
  checked 0 p true s fun s => ⟨s, .ok, reservePayload s⟩

end Sys2Proof.Machine
end

