-- ==== Sys2Proof/Machine/Store.lean ====
section
/-! DEFINITION. The settings store (chapter 11): reading and writing settings, commits, part writes, checks, and the lock
of the DUTY RULES block (R121). -/

namespace Sys2Proof.Machine

/-! ### Values (R15, R144, R174) -/

/-- The number of fields of a block (R174). -/
def fieldCount (b : Block) : Nat := (fieldSpecs b).length

/-- The block and field of a payload, where the block has the field (R174). -/
def fieldOf (p : List Byte) : Option (Block × Nat) :=
  match blockOf (u8At p 0) with
  | some b => if u8At p 1 < fieldCount b then some (b, u8At p 1) else none
  | none => none

/-- The bytes that READ SETTING returns for a field (R174, R136). -/
def settingBytes (s : State) (b : Block) (i : Nat) : List Byte :=
  match b with
  | .chanMap => mapBytes s.set.chanMap.chanMap
  | .timers => fieldBytes (weeklyOf s.tmr).length
  | .reserve => if i = 3 then ladderBytes s.set.reserve.ladder else fieldBytes (s.set.num b i)
  | _ => fieldBytes (s.set.num b i)

/-- A map entry of a payload byte: a consumer, or NONE (R15). -/
def mapEntryOf (n : Nat) : Option (Option Consumer) :=
  if n = 255 then some none else (consumerOf n).map some

/-- The map of a payload, none where an entry is out of its set (R15). -/
def mapOf (p : List Byte) : Option (List (Option Consumer)) := (List.range 8).mapM fun i => mapEntryOf (u8At p (2 + i))

/-- A ladder step of a payload (R144). -/
def ladderStepOf (p : List Byte) (i : Nat) : Option LadderStep :=
  match ladderConsumerOf (u8At p (3 + 2 * i)), ladderActionOf (u8At p (4 + 2 * i)) with
  | some c, some a => some ⟨c, a⟩
  | _, _ => none

/-- The ladder of a payload, none where the count or a code is out of its set (R144). -/
def ladderOf (p : List Byte) : Option (List LadderStep) :=
  if u8At p 2 ≤ 8 then (List.range (u8At p 2)).mapM (ladderStepOf p) else none

/-- The payload length that a field's WRITE SETTING needs (R174). -/
def writeLength (b : Block) (i : Nat) (p : List Byte) : Bool :=
  match b with
  | .chanMap => decide (p.length = 10)
  | .reserve =>
    if i = 3 then decide (3 ≤ p.length) && decide (p.length = 3 + 2 * u8At p 2) else decide (p.length = 6)
  | _ => decide (p.length = 6)

/-- The outcome of the owner's value checks on a WRITE SETTING. -/
inductive Valued where
  | accepted (d : BlockData) (clamped : Bool)
  | refused (r : Result)
  deriving DecidableEq, Repr

/-- The value checks of a numeric field: its range or set, then the ordering rules (Section 0.6.3). -/
def checkNumber (b : Block) (i : Nat) (v : Int) (d : BlockData) : Valued :=
  match (((fieldSpecs b)[i]?).getD .notNumeric).check v with
  | .badField => .refused .badField
  | .accepted v clamped =>
    if blockOrdered b (d.nums.set i v) then .accepted { d with nums := d.nums.set i v } clamped else .refused .order

/-- The owner's value checks of its block rule (R15, R36, R64, R82, R102, R120, R144, R154, R171, R136). -/
def checkValue (b : Block) (i : Nat) (p : List Byte) (d : BlockData) : Valued :=
  match b with
  | .chanMap =>
    match mapOf p with
    | some m => if mapOrdered m then .accepted { d with chanMap := m } false else .refused .order
    | none => .refused .badField
  | .reserve =>
    if i = 3 then
      match ladderOf p with
      | some l => if ladderOrdered l then .accepted { d with ladder := l } false else .refused .order
      | none => .refused .badField
    else checkNumber b i (i32At p 2) d
  | _ => checkNumber b i (i32At p 2) d

/-- The block refuses writes: block 3, and block 6 while locked (R174, R175). -/
def blockLocked (s : State) (b : Block) : Bool := b == .heaterState || (b == .dutyRules && s.sto.lock)

/-- READ SETTING (R174). -/
def reqReadSetting (p : List Byte) (s : State) : Answer :=
  if p.length < 2 then refuse .badLength s
  else
    match fieldOf p with
    | none => refuse .badField s
    | some (b, i) =>
      if s.settling && decide (s.sys.loads ≤ blockNumber b) then refuse .notReady s
      else if p.length ≠ 2 then refuse .badLength s
      else ⟨s, .ok, settingBytes s b i⟩

/-- A WRITE SETTING of a block whose commit is in flight, after its snapshot (R173). -/
def Activity.dirty (a : Activity) (b : Block) : Activity :=
  match a with
  | .write w => .write (if w.block = b then { w with dirtied := true } else w)
  | .idle => .idle
  | .check x => .check x

/-- An accepted value enters the working copy and sets the uncommitted flag (R173, R174). -/
def Store.accept (k : Store) (b : Block) (d : BlockData) : Store :=
  { k with
    working := k.working.set b d
    uncommitted := k.uncommitted.set b true
    activity := k.activity.dirty b }

/-- WRITE SETTING (R174); the BAD_FIELD of block 9 (R136) stands in the place of the length check (log 44). -/
def reqWriteSetting (p : List Byte) (s : State) : Answer :=
  if p.length < 2 then refuse .badLength s
  else
    match fieldOf p with
    | none => refuse .badField s
    | some (b, i) =>
      if s.settling then refuse .notReady s
      else if blockLocked s b then refuse .locked s
      else if b = .timers then refuse .badField s
      else if !writeLength b i p then refuse .badLength s
      else
        match checkValue b i p (s.set.get b) with
        | .accepted d clamped => done (accepted clamped) { s with sto := s.sto.accept b d }
        | .refused r => refuse r s

/-! ### Writes (R175, R176) -/

/-- A write or a check is in flight, or a part write is pending. -/
def Store.engaged (k : Store) : Bool := storeBusy k || k.pendingPart

/-- The snapshot of a block: the working copy, and for block 9 the WEEKLY entries of the table (R136, R175). -/
def snapshot (s : State) (b : Block) : BlockData :=
  if b = .timers then ⟨[0], [], [], weeklyOf s.tmr⟩ else s.set.get b

/-- COMMIT BLOCK (R175). -/
def reqCommitBlock (p : List Byte) (s : State) : Answer :=
  if p.length ≠ 1 then refuse .badLength s
  else
    match blockOf (u8At p 0) with
    | none => refuse .badField s
    | some b =>
      if s.settling then refuse .notReady s
      else if blockLocked s b then refuse .locked s
      else if s.sto.engaged then refuse .busy s
      else done .ok { s with sto := s.sto.begin b false (snapshot s b) }

/-- Meaning of STORE_WRITE_DONE (R175): the write ends and the read-back begins. -/
def execStoreWriteDone (s : State) : Host.Outcome State Fault Refusal :=
  s.live fun s =>
    match s.sto.activity with
    | .write w =>
      whenDue (w.phase == .writing) s fun s =>
        { s with sto := { s.sto with activity := .write { w with phase := .reading } } }
    | .idle => s
    | .check _ => s

/-- A write is complete with its result (R173, R175). -/
def Store.completed (k : Store) (w : Write) (ok : Bool) : Store :=
  { k with
    activity := .idle
    stored :=
      k.stored.set w.block
        (if ok then .written w.block w.snapshot else { k.stored.get w.block with marked := true })
    held := k.held.set w.block (if ok then some (Stored.written w.block w.snapshot).crc else none)
    uncommitted := if ok && !w.dirtied then k.uncommitted.set w.block false else k.uncommitted
    lastWrite := some (w.block, ok) }

/-- The pending part write, if any, starts with the lockout record as it stands (R176). -/
def startPending (s : State) : State :=
  if s.sto.pendingPart then
    { s with sto := { s.sto.begin .heaterState true (lockoutData s.htr.lockout) with pendingPart := false } }
  else s

/-- A write completes: the store's record, STORE_DONE, then the pending part write (R175). -/
def completeWrite (w : Write) (ok : Bool) (s : State) : State :=
  startPending
    (post .storeDone (if ok then 0 else 1) (blockNumber w.block) { s with sto := s.sto.completed w ok })

/-- Meaning of STORE_READBACK_DONE (R175). -/
def execStoreReadbackDone (matched : Bool) (s : State) : Host.Outcome State Fault Refusal :=
  s.live fun s =>
    match s.sto.activity with
    | .write w =>
      whenDue (w.phase == .reading) s fun s =>
        if matched then completeWrite w true s
        else if w.second then completeWrite w false s
        else { s with sto := { s.sto with activity := .write { w with phase := .writing, second := true } } }
    | .idle => s
    | .check _ => s

/-! ### The check of the store (R177) -/

/-- CHECK STORE (R177). -/
def reqCheckStore (p : List Byte) (s : State) : Answer :=
  checked 0 p true s fun s =>
    if s.sto.engaged then refuse .busy s
    else
      done .ok
        { s with
          sto :=
            { s.sto with
              activity := .check (s.sto.stored.heaterState.good .heaterState)
              check := .running } }

/-- The lowest-numbered block that the check found bad (R177). -/
def firstBad (k : Store) (block3 : Bool) : Option Block :=
  allBlocks.find? fun b => if b = .heaterState then !block3 else !(k.stored.get b).good b

/-- The check ends (R177). -/
def completeCheck (block3 : Bool) (s : State) : State :=
  match firstBad s.sto block3 with
  | none =>
    startPending (post .storeCheck 0 (-1) { s with sto := { s.sto with activity := .idle, check := .pass } })
  | some b =>
    startPending
      (post .storeCheck 1 (blockNumber b) { s with sto := { s.sto with activity := .idle, check := .fail b } })

/-- Meaning of STORE_CHECK_DONE (R177): block 3 is taken as it was when the check began, or as it is now (log 17). -/
def execStoreCheckDone (block3First : Bool) (s : State) : Host.Outcome State Fault Refusal :=
  s.live fun s =>
    match s.sto.activity with
    | .check began =>
      completeCheck (if block3First then began else s.sto.stored.heaterState.good .heaterState) s
    | .idle => s
    | .write _ => s

/-! ### Status and lock (R121, R178) -/

/-- The activity and the block in flight (R178). -/
def activityBytes : Activity → List Byte
  | .idle => [0, 0xFF]
  | .write w => natBytes 1 (if w.part then 2 else 1) ++ natBytes 1 (blockNumber w.block)
  | .check _ => [3, 0xFF]

/-- The load result codes of R178. -/
def loadCode : LoadResult → Nat
  | .loaded => 0 | .badCheck => 1 | .byDefsel => 2 | .notYet => 3

/-- The check result and the failing block (R178). -/
def checkBytes : CheckResult → List Byte
  | .none => [0, 0xFF]
  | .running => [1, 0xFF]
  | .pass => [2, 0xFF]
  | .fail b => 3 :: natBytes 1 (blockNumber b)

/-- The payload of STORE STATUS (R178; widths: R161). -/
def storePayload (k : Store) : List Byte :=
  activityBytes k.activity ++ encFlag k.pendingPart ++
    allBlocks.flatMap (fun b => natBytes 1 (loadCode (k.loadResult.get b))) ++
    natBytes 2 (encBits (allBlocks.map k.uncommitted.get)) ++
    (match k.lastWrite with
     | none => [0xFF, 0]
     | some (b, ok) => natBytes 1 (blockNumber b) ++ natBytes 1 (if ok then 1 else 2)) ++
    checkBytes k.check ++ encFlag k.lock

/-- STORE STATUS (R178). -/
def reqStoreStatus (p : List Byte) (s : State) : Answer :=
  if p.length ≠ 0 then refuse .badLength s else ⟨s, .ok, storePayload s.sto⟩

/-- A commit of the block is in flight (R175). -/
def Store.committing (k : Store) (b : Block) : Bool :=
  match k.activity with
  | .write w => w.block == b && !w.part
  | .idle => false
  | .check _ => false

/-- LOCK DUTY RULES (R121, R178), checked in the order of R121. -/
def reqLockDutyRules (p : List Byte) (s : State) : Answer :=
  if p.length ≠ 2 then refuse .badLength s
  else if s.settling then refuse .notReady s
  else if s.sto.uncommitted.dutyRules || s.sto.committing .dutyRules then refuse .order s
  else if s.sto.held.dutyRules ≠ some (BitVec.ofNat 16 (u16At p 0)) then refuse .badField s
  else done .ok { s with sto := { s.sto with lock := true } }

end Sys2Proof.Machine
end

