-- ==== Sys2Proof/Machine/Startup.lean ====
section
/-! DEFINITION. Resets, start-up and REINITIALISE (R37, R66, R83, R103, R136, R155, R172, R179, R180). -/

namespace Sys2Proof.Machine

/-! ### Resets (R176, R179) -/

/-- The stored blocks after a reset: a write in flight leaves its block bad (R176). -/
def Store.afterReset (k : Store) : PerBlock Stored :=
  match k.activity with
  | .write w => k.stored.set w.block { k.stored.get w.block with marked := true }
  | .idle => k.stored
  | .check _ => k.stored

/-- The part held in reset with a cause: the volatile state is gone, the outputs are off and the lines released. -/
def heldInReset (cause : ResetCause) (s : State) : State :=
  .cleared ⟨.inReset, cause, false, 0⟩ s.lnk.fast s.sto.afterReset s.sto.lock s.free s.pending

/-- Meaning of POWER_ON_RESET (R179). -/
def execPowerOnReset (s : State) : Host.Outcome State Fault Refusal := .next (heldInReset .powerOn s)

/-- Meaning of PIN_RESET (R179): with a power-on reset present the cause stays POWER_ON. -/
def execPinReset (s : State) : Host.Outcome State Fault Refusal :=
  .next
    (heldInReset (if s.sys.phase = .inReset ∧ s.sys.cause = .powerOn then .powerOn else .pin) s)

/-- Meaning of RESET_RELEASE (R124, R156, R179): the straps are sampled and settling begins; a part that is not held in
reset has nothing to release. -/
def execResetRelease (linksel defsel : Bool) (s : State) : Host.Outcome State Fault Refusal :=
  .next
    (if s.sys.phase = .inReset then
      .cleared ⟨.settling, s.sys.cause, defsel, 0⟩ linksel s.sto.stored s.sto.lock s.free s.pending
     else s)

/-! ### Loading a block (R173, R179) -/

/-- The defaults that a bad check gives: block 3 carries the lockout with cause STORE (R65). -/
def badDefaults (b : Block) : BlockData := if b = .heaterState then heaterStateBad else blockDefaults b

/-- The block is exempt from DEFSEL (R179). -/
def exempt (k : Store) (b : Block) : Bool := b == .heaterState || (b == .dutyRules && k.lock)

/-- One block is loaded, DEFSEL having the given level (R173, R179; log 35). -/
def Store.load (k : Store) (defsel : Bool) (b : Block) : Store :=
  let st := k.stored.get b
  let (d, res) : BlockData × LoadResult :=
    if defsel && !exempt k b then (blockDefaults b, .byDefsel)
    else if st.good b then (st.data, .loaded)
    else (badDefaults b, .badCheck)
  { k with
    working := k.working.set b d
    held := k.held.set b (if st.good b then some st.crc else none)
    loadResult := k.loadResult.set b res
    uncommitted := k.uncommitted.set b false }

/-- The STORE_DEFAULTED notice of a block, if it was defaulted (R179). -/
def postDefaulted (b : Block) (s : State) : State :=
  match s.sto.loadResult.get b with
  | .badCheck => post .storeDefaulted (blockNumber b) 0 s
  | .byDefsel => post .storeDefaulted (blockNumber b) 1 s
  | .loaded => s
  | .notYet => s

/-- The STORE_DEFAULTED notices in block order. -/
def postDefaults (s : State) : State := allBlocks.foldl (fun s b => postDefaulted b s) s

/-- The notice queue is emptied, its timers are idle, and RESTARTED becomes the first record (R172). -/
def restartQueue (s : State) : State :=
  post .restarted (match s.sys.cause with | .powerOn => 0 | .pin => 1 | .reinitialise => 2) 0 { s with ntq := .start }

/-! ### The owners' starting states -/

/-- The output stage from the map as loaded (R37); the holds stand. -/
def startOut (s : State) : State :=
  let m := s.set.chanMap.chanMap
  { s with
    out :=
      { s.out with
        mapInForce := m
        masterFreq := s.set.masterFreq
        recs := recsOf m (holding s)
        stroke := .start } }

/-- The heater after a power-on or pin reset (R66). -/
def startHeater (s : State) : State :=
  let l := lockoutOf s.set.heaterState
  { s with
    htr := { Heater.start with target := s.set.defaultTarget, lockout := l, state := if l.flag then .lockout else .off } }

/-- The cooling controller takes its starting state (R83): the times since the event stand, the lid too. In MIN_OFF the
off time left is the 180 000 ms of R83, whatever the minimum-off left has counted since the release, and in fallback too
(log 49). R83 lets the held flag follow the holds, and R32 hands a hold to the owner of a fitted consumer only: without
cooling fitted the flag stays clear, which is the model's choice (log 59). R83 has the flag clear after a power-on or
pin reset; where a hold has begun between the release and the tenth load, the model lets the flag follow that hold, which is
its choice too (log 68). -/
def startCooling (s : State) : State :=
  let on := s.set.coolingEnabled
  let running := on && coolingFitted s
  postCoolingState .reset
    { s with
      cool :=
        { Cooling.start with
          state := if running then .minOff else .off
          on := on
          setpoint := s.set.coolingSetpoint
          minOff := s.cool.minOff
          sinceOff := s.cool.sinceOff
          offLeft := if running then 180000 else 0
          fallback := s.cool.fallback
          held := coolingFitted s && holding s
          lidSets := if coolingFitted s then s.cool.lidSets else none } }

/-- The light unit takes its starting state (R103). -/
def startLights (s : State) : State :=
  { s with lgt := Lights.start s.set.onLevelLower s.set.onLevelUpper (s.rsv.band == Band.cutoff) }

/-- A and the ladder come from the RESERVE block, and no step is applied (R139, R144, R155). -/
def startReserve (s : State) : State :=
  { s with rsv := { s.rsv with allowance := s.set.allowance, ladder := s.set.reserve.ladder, stack := [] } }

/-- The timer table holds the WEEKLY entries of the TIMERS block (R136). -/
def startTimers (s : State) : State := { s with tmr := { s.tmr with table := tableOf s.set.timers.weekly } }

/-- The owners take their starting state after the tenth load, and the defaulted blocks are reported (R179). -/
def startOwners (s : State) : State :=
  postDefaults (startCooling (startTimers (startReserve (startLights (startHeater (startOut s))))))

/-- Meaning of BLOCK_LOAD_DONE (R172, R179). -/
def execBlockLoadDone (s : State) : Host.Outcome State Fault Refusal :=
  s.live fun s =>
    match s.settling, allBlocks[s.sys.loads]? with
    | true, some b =>
      let s := { s with sto := s.sto.load s.sys.defsel b, sys := { s.sys with loads := s.sys.loads + 1 } }
      if b = .signals then restartQueue s else if b = .timers then startOwners s else s
    | _, _ => s

/-- A heater in LOCKOUT posts its notice (R66). -/
def postLockoutHeld (s : State) : State :=
  if s.htr.state = .lockout then
    post .heaterLockout (causeCode s.htr.lockout.cause).toNat s.htr.lockout.count s
  else s

/-- Meaning of SETTLING_END (R8, R10, R66, R179). -/
def execSettlingEnd (s : State) : Host.Outcome State Fault Refusal :=
  s.live fun s =>
    whenDue (s.settling && s.sys.loads == 10 && decide (16 ≤ s.meas.sets)) s fun s =>
      let s :=
        { s with
          sys := { s.sys with phase := .running }
          meas := { s.meas with keys := ignoreHeldKeys s.meas.keys } }
      postLockoutHeld (judgeSensor .tsf (judgeSensor .tsx (judgeSensor .tsc s)))

/-! ### REINITIALISE (R180) -/

/-- All ten blocks are reloaded without DEFSEL (R180). -/
def Store.reload (k : Store) : Store := allBlocks.foldl (fun k b => k.load false b) k

/-- The heater at REINITIALISE (R66): the lockout record is kept but for the flag and cause of a reloaded block whose
flag is set or that is bad. -/
def reinitHeater (s : State) : State :=
  let h := s.htr
  let re := lockoutOf s.set.heaterState
  let l := if re.flag then { h.lockout with flag := true, cause := re.cause } else h.lockout
  let st : HState := if h.state = .lockout ∨ re.flag then .lockout else .off
  let s' :=
    { s with
      htr :=
        { Heater.start with
          state := st
          mode := h.mode
          target := h.target
          fixedStage := h.fixedStage
          origin := h.origin
          attempts := h.attempts
          restarts := h.restarts
          tRef := h.tRef
          startFan := h.startFan
          glowTarget := h.glowTarget
          stageFan := h.stageFan
          purgeFan := h.purgeFan
          heldBy := h.heldBy
          lockout := l } }
  postLockoutHeld (if st = h.state then s' else postHeaterState s')

/-- The cooling controller at REINITIALISE (R83): 180 s from the event, fallback by the kept TSF validity, which does not
lengthen the off time left (log 49), an open lid handed over after the start. -/
def reinitCooling (s : State) : State :=
  let fallback := s.meas.tsf.validity == .fault
  let s :=
    startCooling
      { s with cool := { s.cool with minOff := 180000, sinceOff := 0, fallback := fallback, lidSets := none } }
  if coolingFitted s && s.meas.lid.level then lidOpened s else s

/-- The reserve account at REINITIALISE (R155): no step applied; in CRITICAL or CUTOFF the full ladder is applied, without
an alert. -/
def reinitReserve (s : State) : State :=
  let s :=
    { s with
      rsv :=
        { s.rsv with
          restoreHold := 0
          lastChange := s.tmr.seconds
          cutoffHold := s.rsv.band == Band.cutoff } }
  match s.rsv.band with
  | .critical => applyRest .bandCritical s
  | .cutoff => applyRest .bandCutoff s
  | .normal => s
  | .low => s

/-- The channel on-currents and histories are emptied (R3). -/
def reinitCurrents (s : State) : State :=
  { s with meas := { s.meas with onCurrent := everyChannel 0, history := everyChannel [] } }

/-- The event of an accepted REINITIALISE (R180); the order of the owners is log 16's. The full ladder that R155 applies
"after the event" belongs to it, so the reply, which R180 builds after the event, shows L above 0 in its summary word: the
model's choice of that order (log 62). -/
def reinitialised (s : State) : State :=
  let s := { s with sys := { s.sys with cause := .reinitialise }, sto := s.sto.reload }
  let s := startReserve (startLights (startOut (reinitCurrents (restartQueue s))))
  postDefaults (reinitReserve (reinitCooling (reinitHeater s)))

/-- REINITIALISE (R180). -/
def reqReinitialise (p : List Byte) (s : State) : Answer :=
  checked 0 p true s fun s =>
    if s.sto.engaged then refuse .busy s
    else if !s.htr.state.resting then refuse .wrongState s
    else done .ok (reinitialised s)

end Sys2Proof.Machine
end

