-- ==== Sys2Proof/Machine/Link.lean ====
section
/-! DEFINITION. The command link (chapter 9): the receiver, the checks and buffers, REJECTs, replies, the dispatch of a
request to its owner, and the notice queue's TAKE NOTICES (R168). -/

namespace Sys2Proof.Machine

/-! ### The CRC-8 (R157) -/

/-- One bit time of the CRC-8 register, polynomial x⁸ + x² + x + 1. -/
def crc8Bit (r : Byte) : Byte := if r.msb then (r <<< 1) ^^^ 0x07 else r <<< 1

/-- `n` bit times. -/
def crc8Bits : Nat → Byte → Byte
  | 0, r => r
  | n + 1, r => crc8Bits n (crc8Bit r)

/-- A byte enters the register, most significant bit first. -/
def crc8Byte (r x : Byte) : Byte := crc8Bits 8 (r ^^^ x)

/-- The CRC-8 of R157. -/
def crc8 (l : List Byte) : Byte := l.foldl crc8Byte 0

/-! ### Frames (Tables 89, 90) -/

/-- The frame of Table 90. -/
def replyFrame (ctr kind result : Byte) (summary : Nat) (payload : List Byte) : List Byte :=
  let body := [BitVec.ofNat 8 payload.length, ctr, kind, result] ++ natBytes 2 summary ++ payload
  0x3C :: body ++ [crc8 body]

/-- The request of a KIND (Table 93). -/
def requestOf : Nat → Option Request
  | 0x01 => some .status | 0x02 => some .readMeasurements | 0x03 => some .takeNotices | 0x04 => some .reinitialise
  | 0x05 => some .setVehicleState | 0x06 => some .setExternalDraw | 0x08 => some .setClock | 0x09 => some .readClock
  | 0x0A => some .setTimer | 0x0B => some .clearTimer | 0x0C => some .listTimers | 0x10 => some .heaterStart
  | 0x11 => some .heaterStop | 0x12 => some .heaterSet | 0x13 => some .heaterStatus
  | 0x14 => some .clearHeaterLockout | 0x18 => some .coolingSet | 0x19 => some .coolingStatus
  | 0x20 => some .setLight | 0x21 => some .loadProgram | 0x22 => some .cancelProgram | 0x23 => some .lightStatus
  | 0x28 => some .beginRest | 0x29 => some .extendRest | 0x2A => some .endRest | 0x2B => some .dutyStatus
  | 0x2C => some .readPeriods | 0x30 => some .reserveStatus | 0x31 => some .setAllowance | 0x32 => some .resetAccount
  | 0x38 => some .channelStatus | 0x39 => some .clearChannelFault | 0x40 => some .readSetting
  | 0x41 => some .writeSetting | 0x42 => some .commitBlock | 0x43 => some .checkStore | 0x44 => some .storeStatus
  | 0x45 => some .lockDutyRules
  | _ => none

/-- The KIND of a request (Table 93). -/
def kindOf : Request → Byte
  | .status => 0x01 | .readMeasurements => 0x02 | .takeNotices => 0x03 | .reinitialise => 0x04
  | .setVehicleState => 0x05 | .setExternalDraw => 0x06 | .setClock => 0x08 | .readClock => 0x09
  | .setTimer => 0x0A | .clearTimer => 0x0B | .listTimers => 0x0C | .heaterStart => 0x10
  | .heaterStop => 0x11 | .heaterSet => 0x12 | .heaterStatus => 0x13
  | .clearHeaterLockout => 0x14 | .coolingSet => 0x18 | .coolingStatus => 0x19
  | .setLight => 0x20 | .loadProgram => 0x21 | .cancelProgram => 0x22 | .lightStatus => 0x23
  | .beginRest => 0x28 | .extendRest => 0x29 | .endRest => 0x2A | .dutyStatus => 0x2B
  | .readPeriods => 0x2C | .reserveStatus => 0x30 | .setAllowance => 0x31 | .resetAccount => 0x32
  | .channelStatus => 0x38 | .clearChannelFault => 0x39 | .readSetting => 0x40
  | .writeSetting => 0x41 | .commitBlock => 0x42 | .checkStore => 0x43 | .storeStatus => 0x44
  | .lockDutyRules => 0x45

/-! ### STATUS (R165) and TAKE NOTICES (R168) -/

/-- The four link counters, two bytes each (R160, R165). -/
def counterBytes (k : Link) : List Byte :=
  natBytes 2 k.checksum ++ natBytes 2 k.gap ++ natBytes 2 k.length ++ natBytes 2 k.overrun

/-- The payload of STATUS (R165). -/
def statusPayload (s : State) : List Byte :=
  natBytes 1 (match s.sys.cause with | .powerOn => 0 | .pin => 1 | .reinitialise => 2) ++ natBytes 2 0x0260 ++ [0x01] ++
    encFlag s.lnk.fast ++ counterBytes s.lnk

/-- STATUS (R165), served during settling. -/
def reqStatus (p : List Byte) (s : State) : Answer :=
  if p.length ≠ 0 then refuse .badLength s else ⟨s, .ok, statusPayload s⟩

/-- The source codes of Table 96. -/
def sourceCode : Source → Nat
  | .meas => 0 | .out => 1 | .htr => 2 | .cool => 3 | .lgt => 4 | .duty => 5 | .tmr => 6 | .rsv => 7 | .lnk => 8
  | .ntq => 9 | .sto => 10

/-- The kind codes of Table 97. -/
def noticeCode : Notice → Nat
  | .restarted => 1 | .sensorFault => 2 | .sensorOk => 3 | .key => 4 | .channelFault => 5 | .channelClear => 6
  | .openLoad => 7 | .heaterState => 8 | .heaterDeclined => 9 | .heaterLockout => 10 | .coolingState => 11
  | .coolingFault => 12 | .lidOpen => 13 | .programEnd => 14 | .alertPlayed => 15 | .drivePrewarn => 16
  | .driveLimit => 17 | .dailyPrewarn => 18 | .dailyLimit => 19 | .breakTaken => 20 | .dailyRestDone => 21
  | .restBegin => 22 | .restDue => 23 | .restEnd => 24 | .restShort => 25 | .vehicleStale => 26 | .timerFired => 27
  | .timerMissed => 28 | .shedStep => 29 | .restoreStep => 30 | .bandChange => 31 | .accountRefilled => 32
  | .storeDone => 33 | .storeDefaulted => 34 | .storeCheck => 35 | .lost => 36

/-- A record in the layout of Table 95, its age at a seconds counter (R168). -/
def noticeBytes (free now : Nat) (r : Record) : List Byte :=
  natBytes 1 (noticeCode r.kind) ++ natBytes 1 (sourceCode r.source) ++ encU free 1 r.detail ++ encI free 2 r.value ++
    encU free 1 r.count ++ natBytes 2 (min 65535 (now - r.time))

/-- The n of TAKE NOTICES brought to 1 to 6 (R168). -/
def takeCount (n : Nat) : Nat := clampNat 1 6 n

/-- The LOST notice after a removal of at least one record (R167). -/
def postLost (removed : Bool) (s : State) : State :=
  if removed && decide (0 < s.ntq.lost) then
    post .lost 0 s.ntq.lost { s with ntq := { s.ntq with lost := 0 } }
  else s

/-- TAKE NOTICES (R167, R168), served during settling. -/
def reqTakeNotices (p : List Byte) (s : State) : Answer :=
  if p.length ≠ 1 then refuse .badLength s
  else
    let n := takeCount (u8At p 0)
    let taken := s.ntq.records.take n
    ⟨postLost (!taken.isEmpty) { s with ntq := { s.ntq with records := s.ntq.records.drop n } },
      accepted (n != u8At p 0), natBytes 1 taken.length ++ taken.flatMap (noticeBytes s.free s.tmr.seconds)⟩

/-! ### The dispatch (R161, R164) -/

/-- A request is handed to its owner (Table 93). -/
def serve (r : Request) (p : List Byte) (s : State) : Answer :=
  match r with
  | .status => reqStatus p s
  | .readMeasurements => reqReadMeasurements p s
  | .takeNotices => reqTakeNotices p s
  | .reinitialise => reqReinitialise p s
  | .setVehicleState => reqSetVehicleState p s
  | .setExternalDraw => reqSetExternalDraw p s
  | .setClock => reqSetClock p s
  | .readClock => reqReadClock p s
  | .setTimer => reqSetTimer p s
  | .clearTimer => reqClearTimer p s
  | .listTimers => reqListTimers p s
  | .heaterStart => reqHeaterStart p s
  | .heaterStop => reqHeaterStop p s
  | .heaterSet => reqHeaterSet p s
  | .heaterStatus => reqHeaterStatus p s
  | .clearHeaterLockout => reqClearLockout p s
  | .coolingSet => reqCoolingSet p s
  | .coolingStatus => reqCoolingStatus p s
  | .setLight => reqSetLight p s
  | .loadProgram => reqLoadProgram p s
  | .cancelProgram => reqCancelProgram p s
  | .lightStatus => reqLightStatus p s
  | .beginRest => reqBeginRest p s
  | .extendRest => reqExtendRest p s
  | .endRest => reqEndRest p s
  | .dutyStatus => reqDutyStatus p s
  | .readPeriods => reqReadPeriods p s
  | .reserveStatus => reqReserveStatus p s
  | .setAllowance => reqSetAllowance p s
  | .resetAccount => reqResetAccount p s
  | .channelStatus => reqChannelStatus p s
  | .clearChannelFault => reqClearChannelFault p s
  | .readSetting => reqReadSetting p s
  | .writeSetting => reqWriteSetting p s
  | .commitBlock => reqCommitBlock p s
  | .checkStore => reqCheckStore p s
  | .storeStatus => reqStoreStatus p s
  | .lockDutyRules => reqLockDutyRules p s

/-- The answer to a frame: its owner's, or UNKNOWN_KIND (R161). -/
def answerFrame (f : Frame) (s : State) : Answer :=
  match requestOf f.kind.toNat with
  | some r => serve r f.payload s
  | none => refuse .unknownKind s

/-- A frame that is ready begins to be sent if the transmitter is idle, else it follows the ready ones (R161, log 7). -/
def Link.enqueue (k : Link) (x : Tx) : Link :=
  match k.tx with
  | none => { k with tx := some x }
  | some _ => { k with ready := k.ready ++ [x] }

/-- The reply to a frame, built from the state after the request (R161). -/
def replyTo (f : Frame) (a : Answer) : Tx :=
  .reply (replyFrame f.ctr f.kind (BitVec.ofNat 8 (resultCode a.result)) (summary a.state) a.payload)

/-- The frame in work is dispatched: its owner performs it and the reply is built (R161). Each dispatch moves the model's
counter of free values on (log 9). -/
def dispatch (f : Frame) (s : State) : State :=
  let a := answerFrame f s
  { a.state with lnk := a.state.lnk.enqueue (replyTo f a), free := a.state.free + 1 }

/-- A frame becomes the frame in work and is dispatched. -/
def takeIntoWork (f : Frame) (s : State) : State := dispatch f { s with lnk := { s.lnk with work := some f } }

/-! ### REJECTs (R160) -/

/-- A frame of the transmitter is a REJECT. -/
def Tx.isReject : Tx → Bool
  | .reject _ => true | .reply _ => false

/-- A REJECT with a reason is built and placed in its slot, replacing one that has not begun to be sent; the LINK timer
restarts before its summary word is taken (R160, R169). -/
def buildReject (reason ctr : Byte) (s : State) : State :=
  let s := { s with ntq := { s.ntq with linkTimer := some 1000 } }
  let frame := Tx.reject (replyFrame ctr 0 reason (summary s) (counterBytes s.lnk))
  { s with lnk := { s.lnk with ready := s.lnk.ready.filter fun x => !x.isReject }.enqueue frame }

/-! ### Arriving frames (R159) -/

/-- A frame whose CHK agrees arrives: into work, to the pending buffer, or an OVERRUN. -/
def arrive (f : Frame) (s : State) : State :=
  match s.lnk.work, s.lnk.waiting with
  | none, _ => takeIntoWork f s
  | some _, none => { s with lnk := { s.lnk with waiting := some f } }
  | some _, some _ =>
    buildReject 0xF3 f.ctr { s with lnk := { s.lnk with overrun := satSucc 65535 s.lnk.overrun } }

/-- A frame whose CHK differs (R159). -/
def checksumError (ctr : Byte) (s : State) : State :=
  buildReject 0xF1 ctr { s with lnk := { s.lnk with checksum := satSucc 65535 s.lnk.checksum } }

/-- A complete frame is checked: LEN and the bytes after it, the last of them CHK (R159). -/
def checkFrame (len : Byte) (bytes : List Byte) (s : State) : State :=
  let body := bytes.dropLast
  if crc8 (len :: body) = byteAt bytes (bytes.length - 1) then
    arrive ⟨byteAt body 0, byteAt body 1, body.drop 2⟩ s
  else checksumError (byteAt body 0) s

/-! ### The receiver (R156, R158) -/

/-- The receiver takes a new state. -/
def State.withRx (s : State) (rx : Rx) : State := { s with lnk := { s.lnk with rx := rx } }

/-- A partial frame is dropped and GAP is counted (R156, R158). -/
def dropPartial (s : State) : State :=
  { s with lnk := { s.lnk with rx := .hunt, gap := satSucc 65535 s.lnk.gap } }

/-- A character with its stop bit high, or any character in DISCARD (R158). -/
def goodCharacter (x : Byte) (s : State) : State :=
  match s.lnk.rx with
  | .hunt => if x = 0xC3 then s.withRx .length else s
  | .length => if x.toNat ≤ 48 then s.withRx (.body x []) else s.withRx (.discard none)
  | .body len bytes =>
    if len.toNat + 3 ≤ bytes.length + 1 then checkFrame len (bytes ++ [x]) (s.withRx .hunt)
    else s.withRx (.body len (bytes ++ [x]))
  | .discard none => s.withRx (.discard (some x))
  | .discard (some _) => s

/-- A framing error (R156). -/
def badCharacter (x : Byte) (s : State) : State :=
  match s.lnk.rx with
  | .hunt => s
  | .length => dropPartial s
  | .body _ _ => dropPartial s
  | .discard _ => goodCharacter x s

/-- Meaning of RECEIVE_CHARACTER (R156, R158). -/
def execReceiveCharacter (x : Byte) (stopHigh : Bool) (s : State) : Host.Outcome State Fault Refusal :=
  s.live fun s => if stopHigh then goodCharacter x s else badCharacter x s

/-- Meaning of LINK_GAP_TIMEOUT (R158). -/
def execLinkGapTimeout (s : State) : Host.Outcome State Fault Refusal :=
  s.live fun s =>
    match s.lnk.rx with
    | .hunt => s
    | .length => dropPartial s
    | .body _ _ => dropPartial s
    | .discard ctr =>
      buildReject 0xF2 (ctr.getD 0)
        { s with lnk := { s.lnk with rx := .hunt, length := satSucc 65535 s.lnk.length } }

/-! ### The transmitter (R159, R161) -/

/-- The next ready frame begins to be sent, or the transmitter is idle. -/
def Link.sendNext (k : Link) : Link :=
  match k.ready with
  | x :: rest => { k with tx := some x, ready := rest }
  | [] => { k with tx := none }

/-- The pending frame, if any, becomes the frame in work and is dispatched (R159). -/
def takeWaiting (s : State) : State :=
  match s.lnk.waiting with
  | some f => takeIntoWork f { s with lnk := { s.lnk with waiting := none } }
  | none => s

/-- Meaning of FRAME_SENT (R159): the last byte of a reply has been sent. -/
def execFrameSent (s : State) : Host.Outcome State Fault Refusal :=
  s.live fun s =>
    match s.lnk.tx with
    | some (.reply _) => takeWaiting { s with lnk := { s.lnk.sendNext with work := none } }
    | some (.reject _) => s
    | none => s

/-- Meaning of REJECT_SENT (R161): the last byte of a REJECT has been sent. -/
def execRejectSent (s : State) : Host.Outcome State Fault Refusal :=
  s.live fun s =>
    match s.lnk.tx with
    | some (.reject _) => { s with lnk := s.lnk.sendNext }
    | some (.reply _) => s
    | none => s

/-! ### The request commands: a checked frame of the kind arrives (log 6) -/

/-- A checked frame of a request arrives. -/
def receiveRequest (r : Request) (ctr : Byte) (p : List Byte) (s : State) : Host.Outcome State Fault Refusal :=
  s.live (arrive ⟨ctr, kindOf r, p⟩)

/-- Meaning of UNKNOWN_KIND (R161). -/
def execUnknownKind (ctr kind : Byte) (p : List Byte) (s : State) : Host.Outcome State Fault Refusal :=
  s.live (arrive ⟨ctr, kind, p⟩)

/-- Meaning of STATUS (R165). -/
def execStatus (ctr : Byte) (p : List Byte) (s : State) : Host.Outcome State Fault Refusal :=
  receiveRequest .status ctr p s

/-- Meaning of READ_MEASUREMENTS (R14). -/
def execReadMeasurements (ctr : Byte) (p : List Byte) (s : State) : Host.Outcome State Fault Refusal :=
  receiveRequest .readMeasurements ctr p s

/-- Meaning of TAKE_NOTICES (R168). -/
def execTakeNotices (ctr : Byte) (p : List Byte) (s : State) : Host.Outcome State Fault Refusal :=
  receiveRequest .takeNotices ctr p s

/-- Meaning of REINITIALISE (R180). -/
def execReinitialise (ctr : Byte) (p : List Byte) (s : State) : Host.Outcome State Fault Refusal :=
  receiveRequest .reinitialise ctr p s

/-- Meaning of SET_VEHICLE_STATE (R105). -/
def execSetVehicleState (ctr : Byte) (p : List Byte) (s : State) : Host.Outcome State Fault Refusal :=
  receiveRequest .setVehicleState ctr p s

/-- Meaning of SET_EXTERNAL_DRAW (R140). -/
def execSetExternalDraw (ctr : Byte) (p : List Byte) (s : State) : Host.Outcome State Fault Refusal :=
  receiveRequest .setExternalDraw ctr p s

/-- Meaning of SET_CLOCK (R126). -/
def execSetClock (ctr : Byte) (p : List Byte) (s : State) : Host.Outcome State Fault Refusal :=
  receiveRequest .setClock ctr p s

/-- Meaning of READ_CLOCK (R127). -/
def execReadClock (ctr : Byte) (p : List Byte) (s : State) : Host.Outcome State Fault Refusal :=
  receiveRequest .readClock ctr p s

/-- Meaning of SET_TIMER (R130). -/
def execSetTimer (ctr : Byte) (p : List Byte) (s : State) : Host.Outcome State Fault Refusal :=
  receiveRequest .setTimer ctr p s

/-- Meaning of CLEAR_TIMER (R131). -/
def execClearTimer (ctr : Byte) (p : List Byte) (s : State) : Host.Outcome State Fault Refusal :=
  receiveRequest .clearTimer ctr p s

/-- Meaning of LIST_TIMERS (R132). -/
def execListTimers (ctr : Byte) (p : List Byte) (s : State) : Host.Outcome State Fault Refusal :=
  receiveRequest .listTimers ctr p s

/-- Meaning of HEATER_START (R39). -/
def execHeaterStart (ctr : Byte) (p : List Byte) (s : State) : Host.Outcome State Fault Refusal :=
  receiveRequest .heaterStart ctr p s

/-- Meaning of HEATER_STOP (R51). -/
def execHeaterStop (ctr : Byte) (p : List Byte) (s : State) : Host.Outcome State Fault Refusal :=
  receiveRequest .heaterStop ctr p s

/-- Meaning of HEATER_SET (R50). -/
def execHeaterSet (ctr : Byte) (p : List Byte) (s : State) : Host.Outcome State Fault Refusal :=
  receiveRequest .heaterSet ctr p s

/-- Meaning of HEATER_STATUS (R63). -/
def execHeaterStatus (ctr : Byte) (p : List Byte) (s : State) : Host.Outcome State Fault Refusal :=
  receiveRequest .heaterStatus ctr p s

/-- Meaning of CLEAR_HEATER_LOCKOUT (R62). -/
def execClearHeaterLockout (ctr : Byte) (p : List Byte) (s : State) : Host.Outcome State Fault Refusal :=
  receiveRequest .clearHeaterLockout ctr p s

/-- Meaning of COOLING_SET (R69). -/
def execCoolingSet (ctr : Byte) (p : List Byte) (s : State) : Host.Outcome State Fault Refusal :=
  receiveRequest .coolingSet ctr p s

/-- Meaning of COOLING_STATUS (R81). -/
def execCoolingStatus (ctr : Byte) (p : List Byte) (s : State) : Host.Outcome State Fault Refusal :=
  receiveRequest .coolingStatus ctr p s

/-- Meaning of SET_LIGHT (R86). -/
def execSetLight (ctr : Byte) (p : List Byte) (s : State) : Host.Outcome State Fault Refusal :=
  receiveRequest .setLight ctr p s

/-- Meaning of LOAD_PROGRAM (R88). -/
def execLoadProgram (ctr : Byte) (p : List Byte) (s : State) : Host.Outcome State Fault Refusal :=
  receiveRequest .loadProgram ctr p s

/-- Meaning of CANCEL_PROGRAM (R92). -/
def execCancelProgram (ctr : Byte) (p : List Byte) (s : State) : Host.Outcome State Fault Refusal :=
  receiveRequest .cancelProgram ctr p s

/-- Meaning of LIGHT_STATUS (R101). -/
def execLightStatus (ctr : Byte) (p : List Byte) (s : State) : Host.Outcome State Fault Refusal :=
  receiveRequest .lightStatus ctr p s

/-- Meaning of BEGIN_REST (R114). -/
def execBeginRest (ctr : Byte) (p : List Byte) (s : State) : Host.Outcome State Fault Refusal :=
  receiveRequest .beginRest ctr p s

/-- Meaning of EXTEND_REST (R117). -/
def execExtendRest (ctr : Byte) (p : List Byte) (s : State) : Host.Outcome State Fault Refusal :=
  receiveRequest .extendRest ctr p s

/-- Meaning of END_REST (R118). -/
def execEndRest (ctr : Byte) (p : List Byte) (s : State) : Host.Outcome State Fault Refusal :=
  receiveRequest .endRest ctr p s

/-- Meaning of DUTY_STATUS (R122). -/
def execDutyStatus (ctr : Byte) (p : List Byte) (s : State) : Host.Outcome State Fault Refusal :=
  receiveRequest .dutyStatus ctr p s

/-- Meaning of READ_PERIODS (R108). -/
def execReadPeriods (ctr : Byte) (p : List Byte) (s : State) : Host.Outcome State Fault Refusal :=
  receiveRequest .readPeriods ctr p s

/-- Meaning of RESERVE_STATUS (R153). -/
def execReserveStatus (ctr : Byte) (p : List Byte) (s : State) : Host.Outcome State Fault Refusal :=
  receiveRequest .reserveStatus ctr p s

/-- Meaning of SET_ALLOWANCE (R139). -/
def execSetAllowance (ctr : Byte) (p : List Byte) (s : State) : Host.Outcome State Fault Refusal :=
  receiveRequest .setAllowance ctr p s

/-- Meaning of RESET_ACCOUNT (R138). -/
def execResetAccount (ctr : Byte) (p : List Byte) (s : State) : Host.Outcome State Fault Refusal :=
  receiveRequest .resetAccount ctr p s

/-- Meaning of CHANNEL_STATUS (R33). -/
def execChannelStatus (ctr : Byte) (p : List Byte) (s : State) : Host.Outcome State Fault Refusal :=
  receiveRequest .channelStatus ctr p s

/-- Meaning of CLEAR_CHANNEL_FAULT (R35). -/
def execClearChannelFault (ctr : Byte) (p : List Byte) (s : State) : Host.Outcome State Fault Refusal :=
  receiveRequest .clearChannelFault ctr p s

/-- Meaning of READ_SETTING (R174). -/
def execReadSetting (ctr : Byte) (p : List Byte) (s : State) : Host.Outcome State Fault Refusal :=
  receiveRequest .readSetting ctr p s

/-- Meaning of WRITE_SETTING (R174). -/
def execWriteSetting (ctr : Byte) (p : List Byte) (s : State) : Host.Outcome State Fault Refusal :=
  receiveRequest .writeSetting ctr p s

/-- Meaning of COMMIT_BLOCK (R175). -/
def execCommitBlock (ctr : Byte) (p : List Byte) (s : State) : Host.Outcome State Fault Refusal :=
  receiveRequest .commitBlock ctr p s

/-- Meaning of CHECK_STORE (R177). -/
def execCheckStore (ctr : Byte) (p : List Byte) (s : State) : Host.Outcome State Fault Refusal :=
  receiveRequest .checkStore ctr p s

/-- Meaning of STORE_STATUS (R178). -/
def execStoreStatus (ctr : Byte) (p : List Byte) (s : State) : Host.Outcome State Fault Refusal :=
  receiveRequest .storeStatus ctr p s

/-- Meaning of LOCK_DUTY_RULES (R121). -/
def execLockDutyRules (ctr : Byte) (p : List Byte) (s : State) : Host.Outcome State Fault Refusal :=
  receiveRequest .lockDutyRules ctr p s

end Sys2Proof.Machine
end

