-- ==== Sys2Proof/Machine/SampleSet.lean ====
section
/-! DEFINITION. SAMPLE_SET (R1): the completion of a sample set, with what every block does at it (95_what_each_step_holds;
the order inside the set is log 15's). -/

namespace Sys2Proof.Machine

/-- The set is a 100th set counted from reset release (R6, R24). -/
def wholeSecond (s : State) : Bool := s.meas.sets % 100 == 0

/-- The times that count in sample sets, one set on (R27, R38, R67, R68, R84, R169). -/
def tickTimes (s : State) : State :=
  tickNtq (retryTick (lightsTick (heaterTick { s with cool := s.cool.tick })))

/-- The output stage at a set: slot values with the duty in force during it, compensated duty at the VBAT_F update, the
slew, overcurrents, open-load runs, supply floor, thermal hold (R19 to R32). The slew comes before whatever may write a
demand or release a record at this set, so those act on it from the next set on (R18, R32). -/
def outputSet (s : State) : State :=
  judgeThermal (judgeFloor (openRunsSet s (overcurrents (slewSet (compensateSet (slots s))))))

/-- The reserve account's judgements of a VBAT_F update (R137, R149). -/
def supplyRuns (s : State) : State :=
  { s with
    rsv := { (s.rsv.chargeTick s.meas.vbatF).bandTick s.set s.meas.vbatF with accounted := false } }

/-- The one-second means, the start check and the accounting second (R24, R73, R141). -/
def secondSet (s : State) : State := accountingSecond (startCheckPass (oneSecondMeans s))

/-- The heater at a set: its tests, and at a recomputation of the 10 s cab mean the thermostat (R43, R48, R53 to R55). A
sensor whose run of 3 or 10 this set completes still shows its former validity here (log 47). -/
def heaterAtSet (expiryFirst : Bool) (s : State) : State :=
  let s := heaterSet expiryFirst s
  if wholeSecond s then thermostatEvaluation s else s

/-- What a sample set does (R1). Where a charge-state run or a band run is complete at a 100th set, the accounting second of
that set still finds the charge state and the band of before: CHARGE_STATE_CHANGE and BAND_CHANGE come after the set, which
is the model's choice (log 55). In the same way every other event with a command of its own that this set completes comes
after the set, and what the set does may leave it not due (log 58). -/
def sampleTaken (r : RawSet) (s : State) : State :=
  let s := supplyRuns (outputSet (lidAtStart (tickTimes (measure r s))))
  let s := if wholeSecond s then secondSet s else s
  lightsRefresh (cutInTest (cutOutTest (heaterAtSet r.expiryFirst s)))

/-- Meaning of SAMPLE_SET (R1); the stretch timers follow the conditions that the set changed (R169). -/
def execSampleSet (r : RawSet) (s : State) : Host.Outcome State Fault Refusal :=
  s.live fun s => withStretch s (sampleTaken r s)

end Sys2Proof.Machine
end

