-- ==== Sys2Proof/Machine/Dispatch.lean ====
section
/-! DEFINITION. `exec`: the meaning of every command, one arm per constructor of `Instr`. -/

namespace Sys2Proof.Machine

def exec (i : Instr) (s : State) : Host.Outcome State Fault Refusal :=
  match i with
  | .powerOnReset => Sys2Proof.Machine.execPowerOnReset s
  | .pinReset => Sys2Proof.Machine.execPinReset s
  | .resetRelease linksel defsel => Sys2Proof.Machine.execResetRelease linksel defsel s
  | .blockLoadDone => Sys2Proof.Machine.execBlockLoadDone s
  | .settlingEnd => Sys2Proof.Machine.execSettlingEnd s
  | .sampleSet raw => Sys2Proof.Machine.execSampleSet raw s
  | .sensorFault sensor => Sys2Proof.Machine.execSensorFault sensor s
  | .sensorOk sensor => Sys2Proof.Machine.execSensorOk sensor s
  | .debounceChange input => Sys2Proof.Machine.execDebounceChange input s
  | .keyLongPress key => Sys2Proof.Machine.execKeyLongPress key s
  | .keyRepeat key => Sys2Proof.Machine.execKeyRepeat key s
  | .pumpFastReading raw => Sys2Proof.Machine.execPumpFastReading raw s
  | .retryExpiry consumer => Sys2Proof.Machine.execRetryExpiry consumer s
  | .tripWindowClose consumer => Sys2Proof.Machine.execTripWindowClose consumer s
  | .hitPhaseEnd => Sys2Proof.Machine.execHitPhaseEnd s
  | .holdPhaseEnd => Sys2Proof.Machine.execHoldPhaseEnd s
  | .openLoadSet consumer => Sys2Proof.Machine.execOpenLoadSet consumer s
  | .openLoadClear consumer => Sys2Proof.Machine.execOpenLoadClear consumer s
  | .checkEnd => Sys2Proof.Machine.execCheckEnd s
  | .glowEnd => Sys2Proof.Machine.execGlowEnd s
  | .primeEnd => Sys2Proof.Machine.execPrimeEnd s
  | .ignitionWindowExpiry => Sys2Proof.Machine.execIgnitionWindowExpiry s
  | .strokeDue => Sys2Proof.Machine.execStrokeDue s
  | .peffRampEnd => Sys2Proof.Machine.execPeffRampEnd s
  | .stabiliseGlowOff => Sys2Proof.Machine.execStabiliseGlowOff s
  | .stabiliseEnd => Sys2Proof.Machine.execStabiliseEnd s
  | .runTenMinutes => Sys2Proof.Machine.execRunTenMinutes s
  | .idleOff => Sys2Proof.Machine.execIdleOff s
  | .restartWaitExpiry => Sys2Proof.Machine.execRestartWaitExpiry s
  | .runTimerExpiry => Sys2Proof.Machine.execRunTimerExpiry s
  | .purgeBurnOffEnd => Sys2Proof.Machine.execPurgeBurnOffEnd s
  | .purgeMaximum => Sys2Proof.Machine.execPurgeMaximum s
  | .holdTimeLimit => Sys2Proof.Machine.execHoldTimeLimit s
  | .minOffEnd => Sys2Proof.Machine.execMinOffEnd s
  | .cutIn => Sys2Proof.Machine.execCutIn s
  | .startCheckFail => Sys2Proof.Machine.execStartCheckFail s
  | .runningSixtySeconds => Sys2Proof.Machine.execRunningSixtySeconds s
  | .speedStepChoice => Sys2Proof.Machine.execSpeedStepChoice s
  | .lidOpen120 => Sys2Proof.Machine.execLidOpen120 s
  | .fallbackOnEnd => Sys2Proof.Machine.execFallbackOnEnd s
  | .lightRampEnd light => Sys2Proof.Machine.execLightRampEnd light s
  | .programStepEnd light => Sys2Proof.Machine.execProgramStepEnd light s
  | .alertPartEnd light => Sys2Proof.Machine.execAlertPartEnd light s
  | .wakeChimeTimerExpiry => Sys2Proof.Machine.execWakeChimeTimerExpiry s
  | .timerSecond => Sys2Proof.Machine.execTimerSecond s
  | .timerEntryFire => Sys2Proof.Machine.execTimerEntryFire s
  | .vehicleHoldExpiry => Sys2Proof.Machine.execVehicleHoldExpiry s
  | .vehicleStale => Sys2Proof.Machine.execVehicleStale s
  | .limitRepeat limit => Sys2Proof.Machine.execLimitRepeat limit s
  | .chargeStateChange => Sys2Proof.Machine.execChargeStateChange s
  | .restoreStep => Sys2Proof.Machine.execRestoreStep s
  | .lowPaceStep => Sys2Proof.Machine.execLowPaceStep s
  | .bandChange bandFirst alertFirst => Sys2Proof.Machine.execBandChange bandFirst alertFirst s
  | .stretchExpiry cls => Sys2Proof.Machine.execStretchExpiry cls s
  | .linkTimerExpiry => Sys2Proof.Machine.execLinkTimerExpiry s
  | .receiveCharacter byte stopHigh => Sys2Proof.Machine.execReceiveCharacter byte stopHigh s
  | .linkGapTimeout => Sys2Proof.Machine.execLinkGapTimeout s
  | .frameSent => Sys2Proof.Machine.execFrameSent s
  | .unknownKind ctr kind payload => Sys2Proof.Machine.execUnknownKind ctr kind payload s
  | .status ctr payload => Sys2Proof.Machine.execStatus ctr payload s
  | .readMeasurements ctr payload => Sys2Proof.Machine.execReadMeasurements ctr payload s
  | .takeNotices ctr payload => Sys2Proof.Machine.execTakeNotices ctr payload s
  | .reinitialise ctr payload => Sys2Proof.Machine.execReinitialise ctr payload s
  | .setVehicleState ctr payload => Sys2Proof.Machine.execSetVehicleState ctr payload s
  | .setExternalDraw ctr payload => Sys2Proof.Machine.execSetExternalDraw ctr payload s
  | .setClock ctr payload => Sys2Proof.Machine.execSetClock ctr payload s
  | .readClock ctr payload => Sys2Proof.Machine.execReadClock ctr payload s
  | .setTimer ctr payload => Sys2Proof.Machine.execSetTimer ctr payload s
  | .clearTimer ctr payload => Sys2Proof.Machine.execClearTimer ctr payload s
  | .listTimers ctr payload => Sys2Proof.Machine.execListTimers ctr payload s
  | .heaterStart ctr payload => Sys2Proof.Machine.execHeaterStart ctr payload s
  | .heaterStop ctr payload => Sys2Proof.Machine.execHeaterStop ctr payload s
  | .heaterSet ctr payload => Sys2Proof.Machine.execHeaterSet ctr payload s
  | .heaterStatus ctr payload => Sys2Proof.Machine.execHeaterStatus ctr payload s
  | .clearHeaterLockout ctr payload => Sys2Proof.Machine.execClearHeaterLockout ctr payload s
  | .coolingSet ctr payload => Sys2Proof.Machine.execCoolingSet ctr payload s
  | .coolingStatus ctr payload => Sys2Proof.Machine.execCoolingStatus ctr payload s
  | .setLight ctr payload => Sys2Proof.Machine.execSetLight ctr payload s
  | .loadProgram ctr payload => Sys2Proof.Machine.execLoadProgram ctr payload s
  | .cancelProgram ctr payload => Sys2Proof.Machine.execCancelProgram ctr payload s
  | .lightStatus ctr payload => Sys2Proof.Machine.execLightStatus ctr payload s
  | .beginRest ctr payload => Sys2Proof.Machine.execBeginRest ctr payload s
  | .extendRest ctr payload => Sys2Proof.Machine.execExtendRest ctr payload s
  | .endRest ctr payload => Sys2Proof.Machine.execEndRest ctr payload s
  | .dutyStatus ctr payload => Sys2Proof.Machine.execDutyStatus ctr payload s
  | .readPeriods ctr payload => Sys2Proof.Machine.execReadPeriods ctr payload s
  | .reserveStatus ctr payload => Sys2Proof.Machine.execReserveStatus ctr payload s
  | .setAllowance ctr payload => Sys2Proof.Machine.execSetAllowance ctr payload s
  | .resetAccount ctr payload => Sys2Proof.Machine.execResetAccount ctr payload s
  | .channelStatus ctr payload => Sys2Proof.Machine.execChannelStatus ctr payload s
  | .clearChannelFault ctr payload => Sys2Proof.Machine.execClearChannelFault ctr payload s
  | .readSetting ctr payload => Sys2Proof.Machine.execReadSetting ctr payload s
  | .writeSetting ctr payload => Sys2Proof.Machine.execWriteSetting ctr payload s
  | .commitBlock ctr payload => Sys2Proof.Machine.execCommitBlock ctr payload s
  | .checkStore ctr payload => Sys2Proof.Machine.execCheckStore ctr payload s
  | .storeStatus ctr payload => Sys2Proof.Machine.execStoreStatus ctr payload s
  | .lockDutyRules ctr payload => Sys2Proof.Machine.execLockDutyRules ctr payload s
  | .storeWriteDone => Sys2Proof.Machine.execStoreWriteDone s
  | .storeReadbackDone matched => Sys2Proof.Machine.execStoreReadbackDone matched s
  | .storeCheckDone block3First => Sys2Proof.Machine.execStoreCheckDone block3First s
  | .rejectSent => Sys2Proof.Machine.execRejectSent s

end Sys2Proof.Machine
end

