-- ==== Sys2Proof/Safety.lean ====
section
/-! DEFINITION. What is due, and what never happens: the events that the part itself raises (log 1, 2), and the
invariants that the spec gives its state. -/

namespace Sys2Proof.Machine

/-! ### Events that are due -/

/-- The state after a command. -/
def after (c : Instr) (s : State) : State :=
  match exec c s with
  | .next t => t
  | .fault _ => s
  | .refused _ => s

/-- The keys, the consumers and the lights that an event may name. -/
def perKey (f : Key → Instr) : List Instr := [f .key0, f .key1, f .key2, f .key3, f .key4]
def perConsumer (f : Consumer → Instr) : List Instr := allConsumers.map f
def perLight (f : Light → Instr) : List Instr := [f .lower, f .upper, f .chime]
def perSensor (f : Sensor → Instr) : List Instr := [f .tsc, f .tsx, f .tsf]

/-- The events of the measurement unit. -/
def measureEvents : List Instr :=
  List.flatten [perSensor .sensorFault, perSensor .sensorOk, [.debounceChange .ign, .debounceChange .lid],
    perKey fun k => .debounceChange (.key k), perKey .keyLongPress, perKey .keyRepeat]

/-- The events of the output stage. -/
def outputEvents : List Instr :=
  List.flatten [perConsumer .retryExpiry, perConsumer .tripWindowClose, [.hitPhaseEnd, .holdPhaseEnd],
    perConsumer .openLoadSet, perConsumer .openLoadClear]

/-- The events of the heater sequencer. -/
def heaterEvents : List Instr :=
  [.checkEnd, .glowEnd, .primeEnd, .ignitionWindowExpiry, .strokeDue, .peffRampEnd, .stabiliseGlowOff, .stabiliseEnd,
   .runTenMinutes, .idleOff, .restartWaitExpiry, .runTimerExpiry, .purgeBurnOffEnd, .purgeMaximum, .holdTimeLimit]

/-- The events of the cooling controller. -/
def coolingEvents : List Instr :=
  [.minOffEnd, .cutIn, .startCheckFail, .runningSixtySeconds, .speedStepChoice, .lidOpen120, .fallbackOnEnd]

/-- The events of the light unit. -/
def lightEvents : List Instr :=
  List.flatten [perLight .lightRampEnd, perLight .programStepEnd, perLight .alertPartEnd, [.wakeChimeTimerExpiry]]

/-- The events of the duty clock, the timer unit, the reserve account and the notice queue. -/
def accountEvents : List Instr :=
  [.timerEntryFire, .vehicleHoldExpiry, .vehicleStale, .limitRepeat .continuous, .limitRepeat .daily,
   .chargeStateChange, .restoreStep, .lowPaceStep, .bandChange true true, .stretchExpiry .supply,
   .stretchExpiry .thermal, .linkTimerExpiry]

/-- The events of the part's own blocks that a count, a timer or a condition brings about. -/
def ownEvents : List Instr :=
  List.flatten [[.settlingEnd], measureEvents, outputEvents, heaterEvents, coolingEvents, lightEvents, accountEvents]

/-- The own events that are due: those that change the state. -/
def dueEvents (s : State) : List Instr := ownEvents.filter fun c => decide (after c s ≠ s)

/-- A timely sender gives the next clock event only when no own event is due (log 2). -/
def Timely (c : Instr) (s : State) : Prop :=
  match c with
  | .sampleSet _ => dueEvents s = []
  | .timerSecond => dueEvents s = []
  | _ => True

/-! ### Invariants -/

/-- R166: at most 32 records, no two of the same kind and source. -/
def Ntq.ok (q : Ntq) : Prop := q.records.length ≤ 32 ∧ (q.records.map fun r => (r.kind, r.source)).Nodup

/-- R141: D never exceeds 999 999 mAh and Q stays below 3 600 mA·s. -/
def Reserve.chargeOk (r : Reserve) : Prop := r.drawn ≤ 999999 ∧ r.rem < 3600

/-- R145: the stack holds exactly the ladder steps 1 to L, in order. -/
def Reserve.stackOk (r : Reserve) : Prop :=
  r.stack.map (·.step) = List.range' 1 r.stack.length ∧ r.stack.length ≤ r.ladder.length

/-- The records of the period list, oldest first. -/
def Duty.periods (d : Duty) : List Period := d.closed ++ [d.current]

/-- R107, R109: CD never exceeds DD; the list holds at most 48 records, the newest of them open and no other; consecutive
records never share a kind. -/
def Duty.ok (d : Duty) : Prop :=
  d.cd ≤ d.dd ∧ d.closed.length ≤ 47 ∧ d.current.cause = .open ∧ (∀ x ∈ d.closed, x.cause ≠ .open) ∧
    d.periods.IsChain fun a b => a.kind ≠ b.kind

/-- R124, R125: the ranges of the seconds counter and of the time of day, which stands at 0 while the clock is not
valid. -/
def Timer.ok (t : Timer) : Prop :=
  t.seconds ≤ 4294967295 ∧ t.minute < 10080 ∧ t.second < 60 ∧ (t.valid = false → t.minute = 0 ∧ t.second = 0)

/-- The order of the timer table: ARMED entries by due time and id, then WAITING_CLOCK entries by id (R128). -/
def entryPrecedes (a b : Entry) : Prop :=
  match a.due, b.due with
  | some x, some y => x < y ∨ (x = y ∧ a.id < b.id)
  | some _, none => True
  | none, some _ => False
  | none, none => a.id < b.id

/-- R130, R136: WEEKLY entries as block 9 holds them: at most 10, with host ids, no two alike. -/
def weeklyOk (l : List Weekly) : Prop :=
  l.length ≤ 10 ∧ (l.map (·.id)).Nodup ∧ ∀ x ∈ l, 1 ≤ x.id ∧ x.id ≤ 239

/-- R128, R130, R135, R136: the timer table holds at most 10 entries, no two ids alike, in the order of R128; a linked entry
has an id from 240 to 242 and stands only with a session, any other has a host id; and the WEEKLY entries that the store
may load into the table are in form. -/
def tableOk (s : State) : Prop :=
  s.tmr.table.length ≤ 10 ∧ (s.tmr.table.map (·.id)).Nodup ∧ s.tmr.table.Pairwise entryPrecedes ∧
    (∀ e ∈ s.tmr.table,
      if e.form = .linked then 240 ≤ e.id ∧ e.id ≤ 242 ∧ s.duty.session.isSome = true else 1 ≤ e.id ∧ e.id ≤ 239) ∧
    weeklyOk s.sto.stored.timers.data.weekly ∧ weeklyOk s.sto.working.timers.weekly ∧
    ∀ w, s.sto.activity = .write w → w.block = .timers → weeklyOk w.snapshot.weekly

/-- R16, R18, Table 20: a record that is not DRIVING applies no duty, a demand OFF is not DRIVING, and a consumer that is
not fitted stays OFF with currents of 0. -/
def ChanRec.ok (r : ChanRec) : Prop :=
  (r.state ≠ .driving → r.applied = 0) ∧ (r.mode = .off → r.state ≠ .driving) ∧
    (r.chans = [] → r.state = .off ∧ r.slotSum = 0 ∧ r.secMean = 0)

/-- Every record is as `ChanRec.ok` says, and a pulse runs only on a DRIVING PUMP record in STROKE mode (R21). -/
def Out.ok (o : Out) : Prop :=
  (∀ c, (o.recs.get c).ok) ∧ (o.stroke.pulse.isSome → o.recs.pump.state = .driving ∧ o.recs.pump.mode = .stroke)

/-- R68, R70, Table 44: COMPRESSOR is demanded DUTY in RUNNING and OFF otherwise, and RUNNING is not entered before the
minimum-off left has run out. -/
def coolingOk (s : State) : Prop :=
  (s.chan .compressor).mode = (if s.cool.state = .running then .duty else .off) ∧
    (s.cool.state = .running → s.cool.minOff = 0)

/-- A record has a mode and a demanded value. -/
def ChanRec.demands (r : ChanRec) (d : Mode × Option Nat) : Prop := r.mode = d.1 ∧ r.demand = d.2

/-- Table 32: FAN, GLOW and PUMP stand at the demands of the heater's state. -/
def heaterOk (s : State) : Prop :=
  (s.chan .fan).demands (heaterDemand s.htr .fan) ∧ (s.chan .glow).demands (heaterDemand s.htr .glow) ∧
    (s.chan .pump).demands (heaterDemand s.htr .pump)

/-- The class of a pattern as a number (Table 57). -/
def patternRank (p : Pattern) : Nat := classRank (patternClass p)

/-- R88, R94, R95: no program is active under a playing part, at most two programs wait, and only behind an active
program or a playing part; a part is pending only behind a playing part of its own class or a higher one. -/
def LightRec.ok (r : LightRec) : Prop :=
  (r.playing.isSome → r.active = none) ∧ r.waiting.length ≤ 2 ∧
    (r.waiting ≠ [] → r.active.isSome ∨ r.playing.isSome) ∧
    ∀ q, r.queued = some q → ∃ p, r.playing = some p ∧ patternRank q ≤ patternRank p.pattern

/-- The three light records are as `LightRec.ok` says. -/
def Lights.ok (g : Lights) : Prop := ∀ l, (g.recs.get l).ok

/-! ### The words of the statements -/

/-- The part is out of reset. -/
abbrev Awake (s : State) : Prop := s.sys.phase ≠ .inReset

/-- A checked frame that arrives now is taken into work at once (R159). -/
abbrev LinkFree (s : State) : Prop := Awake s ∧ s.lnk.work = none

/-- The command of a request. -/
def commandOf (r : Request) (ctr : Byte) (p : List Byte) : Instr :=
  match r with
  | .status => .status ctr p
  | .readMeasurements => .readMeasurements ctr p
  | .takeNotices => .takeNotices ctr p
  | .reinitialise => .reinitialise ctr p
  | .setVehicleState => .setVehicleState ctr p
  | .setExternalDraw => .setExternalDraw ctr p
  | .setClock => .setClock ctr p
  | .readClock => .readClock ctr p
  | .setTimer => .setTimer ctr p
  | .clearTimer => .clearTimer ctr p
  | .listTimers => .listTimers ctr p
  | .heaterStart => .heaterStart ctr p
  | .heaterStop => .heaterStop ctr p
  | .heaterSet => .heaterSet ctr p
  | .heaterStatus => .heaterStatus ctr p
  | .clearHeaterLockout => .clearHeaterLockout ctr p
  | .coolingSet => .coolingSet ctr p
  | .coolingStatus => .coolingStatus ctr p
  | .setLight => .setLight ctr p
  | .loadProgram => .loadProgram ctr p
  | .cancelProgram => .cancelProgram ctr p
  | .lightStatus => .lightStatus ctr p
  | .beginRest => .beginRest ctr p
  | .extendRest => .extendRest ctr p
  | .endRest => .endRest ctr p
  | .dutyStatus => .dutyStatus ctr p
  | .readPeriods => .readPeriods ctr p
  | .reserveStatus => .reserveStatus ctr p
  | .setAllowance => .setAllowance ctr p
  | .resetAccount => .resetAccount ctr p
  | .channelStatus => .channelStatus ctr p
  | .clearChannelFault => .clearChannelFault ctr p
  | .readSetting => .readSetting ctr p
  | .writeSetting => .writeSetting ctr p
  | .commitBlock => .commitBlock ctr p
  | .checkStore => .checkStore ctr p
  | .storeStatus => .storeStatus ctr p
  | .lockDutyRules => .lockDutyRules ctr p

/-- `t` holds the reply to a request that arrived at `s`: the frame is in work, its reply carries the CTR, the KIND, a
result, the summary word of `t` and a payload, and is sent or ready behind the frames before it (R161). -/
def Replied (r : Request) (ctr : Byte) (p : List Byte) (res : Result) (payload : List Byte) (s t : State) : Prop :=
  t.free = s.free + 1 ∧
    t.lnk = ({ s.lnk with work := some ⟨ctr, kindOf r, p⟩ } : Link).enqueue
      (.reply (replyFrame ctr (kindOf r) (BitVec.ofNat 8 (resultCode res)) (summary t) payload))

/-- `t` holds the reply, and the request changed nothing else (`free` is the model's own counter). -/
def RepliedOnly (r : Request) (ctr : Byte) (p : List Byte) (res : Result) (payload : List Byte) (s t : State) : Prop :=
  Replied r ctr p res payload s t ∧ t = { s with lnk := t.lnk, free := t.free }

/-- The request was refused: a reply without payload, and no state changed (R162). -/
def Refused (r : Request) (ctr : Byte) (p : List Byte) (res : Result) (s t : State) : Prop :=
  RepliedOnly r ctr p res [] s t

/-- The records of the listed consumers have new demands and what follows from them; the others, the holds and the map
stand (R18). -/
def OnlyDemanded (cs : List Consumer) (s t : State) : Prop :=
  t.out = { s.out with recs := t.out.recs, stroke := t.out.stroke } ∧
    ∀ c, t.chan c =
      if c ∈ cs then
        { s.chan c with
          mode := (t.chan c).mode, demand := (t.chan c).demand, computed := (t.chan c).computed,
          applied := (t.chan c).applied, saturated := (t.chan c).saturated, state := (t.chan c).state }
      else s.chan c

/-- The heater has entered a state by an event: the demands of Table 32 stand, and only the heater's three records have
new demands. -/
def HeaterEntered (st : HState) (s t : State) : Prop :=
  t.htr.state = st ∧ t.htr.stateSets = 0 ∧ heaterOk t ∧ OnlyDemanded [.fan, .glow, .pump] s t

/-- The heater's part write of block 3 was requested (R65, R176). -/
def PartWritten (s t : State) : Prop :=
  let d := lockoutData t.htr.lockout
  t.sto =
    if storeBusy s.sto then
      { s.sto with
        working := s.sto.working.set .heaterState d
        pendingPart := true
        stored := s.sto.stored.set .heaterState { s.sto.stored.heaterState with marked := true } }
    else
      { s.sto with
        working := s.sto.working.set .heaterState d
        activity := .write ⟨.heaterState, true, d, .writing, false, false⟩ }

/-- The queue after a post at the seconds counter of `s`. -/
def posted (s : State) (k : Notice) (detail : Nat) (value : Int) : Ntq := s.ntq.post s.tmr.seconds k detail value

end Sys2Proof.Machine
end

