-- ==== Sys2Proof/Certificates/Slice0/Obligations.lean ====
section
/-! DEFINITION. The statements for the provers. -/

section
open Sys2Proof Sys2Proof.Machine

/-! ### The machine -/

/-- Tier 1. A step executes the command at the front of the queue on the rest of the queue; with an empty queue the part
idles (the model's choice, log 3). -/
def Obligations.StepServesTheFrontCommand : Prop :=
  (∀ (c : Instr) (rest : List Instr) (s : State),
      step { s with pending := c :: rest } = exec c { s with pending := rest }) ∧
    ∀ s : State, s.pending = [] → step s = .next s

/-- Tier 2. Every command leads from every state to a next state, and leaves the queue of the waiting commands alone: each
command is one whole step of 95_what_each_step_holds.md. That this holds also where the event of the command is not due, and
while the part is held in reset, where the command then changes nothing, is the model's choice (log 1, log 27). -/
def Obligations.EveryCommandGoesOn : Prop :=
  ∀ (c : Instr) (s : State), ∃ t, exec c s = .next t ∧ t.pending = s.pending

/-- Tier 1. Right after the release of a power-on reset: settling with cause POWER_ON, the sensors unjudged with empty
filters, the keys IDLE, both holds inactive, the outputs off, 180 s of minimum off, the duty clock, the counters, the
account, the link, the notice queue and the store's progress at their first values, both lines released. That the heater,
the lights and the timer table stand at first values before their block is loaded is the model's choice (log 5), and so
are the reported value 0 and the clear lastLow of a sensor that has read nothing (log 18). -/
def Obligations.ResetStateIsAsTheSpecGives : Prop :=
  let s := State.reset
  s.sys.phase = .settling ∧ s.sys.cause = .powerOn ∧ s.pending = [] ∧
    (∀ x, s.meas.sensor x = ⟨[], 0, 0, false, .unjudged, 0⟩) ∧ (∀ k, (s.key k).cls = .idle) ∧
    s.out.floorHold = false ∧ s.out.thermalHold = false ∧
    (∀ c, (s.chan c).applied = 0 ∧ (s.chan c).state = .off ∧ (s.chan c).trips = 0 ∧ (s.chan c).ring60 = []) ∧
    s.htr.state = .off ∧ s.htr.runTimer = .absent ∧ s.htr.purge = none ∧
    s.cool.minOff = 180000 ∧ s.cool.sinceOff = 0 ∧ s.cool.cspd = 0 ∧
    (∀ l, (s.light l).present = 0 ∧ (s.light l).steady = 0 ∧ (s.light l).active = none ∧
      (s.light l).playing = none ∧ (s.light l).waiting = [] ∧ (s.light l).queued = none) ∧
    s.duty = Duty.start ∧ s.duty.periods = [⟨.stop, .open, 0, 0⟩] ∧
    s.tmr.seconds = 0 ∧ s.tmr.valid = false ∧ s.tmr.minute = 0 ∧ s.tmr.second = 0 ∧ s.tmr.table = [] ∧
    s.rsv.charging = false ∧ s.rsv.drawn = 0 ∧ s.rsv.rem = 0 ∧ s.rsv.external = 0 ∧ s.rsv.band = .normal ∧
    s.rsv.stack = [] ∧ s.rsv.ring = [] ∧
    s.lnk.rx = .hunt ∧ s.lnk.work = none ∧ s.lnk.waiting = none ∧ s.lnk.tx = none ∧ s.lnk.ready = [] ∧
    s.lnk.checksum = 0 ∧ s.lnk.gap = 0 ∧ s.lnk.length = 0 ∧ s.lnk.overrun = 0 ∧
    s.ntq.records = [] ∧ s.ntq.lost = 0 ∧ nflt s = false ∧ nstaLow s = false ∧
    (∀ b, s.sto.loadResult.get b = .notYet ∧ s.sto.uncommitted.get b = false) ∧ s.sto.activity = .idle

/-- Tier 1. The invariants of the tier 3 statements hold right after reset. -/
def Obligations.InvariantsHoldAtReset : Prop :=
  let s := State.reset
  s.ntq.ok ∧ s.rsv.chargeOk ∧ s.rsv.stackOk ∧ s.duty.ok ∧ s.tmr.ok ∧ s.out.ok ∧ coolingOk s ∧ heaterOk s ∧ s.lgt.ok ∧
    tableOk s

/-! ### Invariants that every step keeps -/

/-- Tier 3. Every step keeps the notice queue at 32 records at most, no two of one kind and source (R166). -/
def Obligations.NoticeQueueStaysBounded : Prop :=
  ∀ s t : State, s.ntq.ok → step s = .next t → t.ntq.ok

/-- Tier 3. Every step keeps D at 999 999 mAh at most and Q below 3 600 mA·s (R141). -/
def Obligations.DrawnChargeStaysInRange : Prop :=
  ∀ s t : State, s.rsv.chargeOk → step s = .next t → t.rsv.chargeOk

/-- Tier 3. Every step keeps the applied-step stack at exactly the steps 1 to L of the ladder in force (R145). -/
def Obligations.AppliedStackStaysExact : Prop :=
  ∀ s t : State, s.rsv.stackOk → step s = .next t → t.rsv.stackOk

/-- Tier 3. Every step keeps CD at or below DD, the period list in its form, and the clock in its range (R107, R109,
R124, R125), and the timer table at 10 entries at most, no two ids alike, in its order, with linked entries only while a
session is present (R128). -/
def Obligations.DriveTimesPeriodsAndClockStayInForm : Prop :=
  (∀ s t : State, s.duty.ok ∧ s.tmr.ok → step s = .next t → t.duty.ok ∧ t.tmr.ok) ∧
    ∀ s t : State, tableOk s → step s = .next t → tableOk t

/-- Tier 3. Every step keeps an output off unless its record is DRIVING, a demand OFF from driving, a consumer that is not
fitted in OFF, and stroke pulses on a DRIVING PUMP record only (R16, R18, R21, Table 20). -/
def Obligations.OutputsDriveOnlyWhenDriving : Prop :=
  ∀ s t : State, s.out.ok → step s = .next t → t.out.ok

/-- Tier 3. With the outputs in form, every step keeps COMPRESSOR demanded in RUNNING only and RUNNING away from a
minimum-off left above 0: the compressor never drives within 180 s of a switch-off (R68), the minimum-off left counting as
CompressorRunsBeginAndEnd states. -/
def Obligations.CompressorNeverDrivesInTheMinimumOff : Prop :=
  (∀ s t : State, s.out.ok ∧ coolingOk s → step s = .next t → coolingOk t) ∧
    ∀ s : State, s.out.ok ∧ coolingOk s → (s.chan .compressor).state = .driving → s.cool.minOff = 0

/-- Tier 3. Every step keeps FAN, GLOW and PUMP at the demands of Table 32; so FAN is demanded in every state from CHECK
to PURGE, PUMP only while strokes fall due, and GLOW never in RUN (R38, R60). -/
def Obligations.HeaterDemandsFollowItsState : Prop :=
  (∀ s t : State, heaterOk s → step s = .next t → heaterOk t) ∧
    ∀ s : State, heaterOk s →
      ((s.chan .fan).mode = .off ↔ s.htr.state = .off ∨ s.htr.state = .waitDemand ∨ s.htr.state = .lockout) ∧
        ((s.chan .pump).mode = .stroke ↔
          s.htr.state = .prime ∨ s.htr.state = .ignition ∨ s.htr.state = .stabilise ∨ s.htr.state = .run) ∧
        (s.htr.state = .run → (s.chan .glow).mode = .off)

/-- Tier 3. Every step keeps the programs and alert parts of each light in their slots (R88, R94, R95). -/
def Obligations.LightSlotsStayRanked : Prop :=
  ∀ s t : State, s.lgt.ok → step s = .next t → t.lgt.ok

/-! ### Resets and start-up -/

/-- Tier 1. Both resets switch every output off, hold CSPD low and release both lines; the store keeps its blocks, but a
write in flight leaves its block bad, and the lock stays. The release begins settling with the cause, the straps and the
link's start; without a reset to release nothing happens (log 27). What stands in the working copy, the map and the owners until
the blocks are loaded is the model's choice (log 5), and so are the measured values before the first set (log 18) and the first
values of heater fields, of I_tot and of the wake ramp that no rule gives (logs 21, 36, 43). -/
def Obligations.ResetsHoldAndReleaseThePart : Prop :=
  (∀ s : State,
      let stored : PerBlock Stored :=
        match s.sto.activity with
        | .write w => s.sto.stored.set w.block { s.sto.stored.get w.block with marked := true }
        | _ => s.sto.stored
      let held (cause : ResetCause) : State :=
        .cleared ⟨.inReset, cause, false, 0⟩ s.lnk.fast stored s.sto.lock s.free s.pending
      exec .powerOnReset s = .next (held .powerOn) ∧
        exec .pinReset s =
          .next (held (if s.sys.phase = .inReset ∧ s.sys.cause = .powerOn then .powerOn else .pin)) ∧
        ∀ cause, (∀ c, ((held cause).chan c).applied = 0) ∧ (held cause).cool.cspd = 0 ∧
          nflt (held cause) = false ∧ nstaLow (held cause) = false) ∧
    ∀ (l d : Bool) (s : State),
      (s.sys.phase = .inReset →
        exec (.resetRelease l d) s =
          .next (.cleared ⟨.settling, s.sys.cause, d, 0⟩ l s.sto.stored s.sto.lock s.free s.pending)) ∧
        (s.sys.phase ≠ .inReset → exec (.resetRelease l d) s = .next s)

/-- The queue after the STORE_DEFAULTED notices of the blocks that took their defaults, in block order (R179). -/
def Sys2Proof.Machine.defaultsPosted (k : Store) (now : Nat) (q : Ntq) : Ntq :=
  allBlocks.foldl
    (fun q b =>
      match k.loadResult.get b with
      | .badCheck => q.post now .storeDefaulted (blockNumber b) 0
      | .byDefsel => q.post now .storeDefaulted (blockNumber b) 1
      | _ => q) q

/-- Tier 2. The load of a block while settling takes the stored block, or its defaults by DEFSEL or for a bad check, with
the load result and the held CRC; the eighth block's load restarts the notice queue, and the last one gives the owners
their starting state and posts COOLING_STATE and the defaulted blocks. The model's own readings in it: the load result of a
block both passed over by DEFSEL and bad, and the held CRC of a good block passed over (log 35); the heater fields that no
rule starts (log 21), Tw of the empty wake record (log 43), the off time left of 180 s at the load (log 49), and the order
of the notices (log 16). -/
def Obligations.BlockLoadTakesStoreOrDefaults : Prop :=
  ∀ (s : State) (b : Block), s.sys.phase = .settling → allBlocks[s.sys.loads]? = some b →
    ∃ t, exec .blockLoadDone s = .next t ∧ t.sys = { s.sys with loads := s.sys.loads + 1 } ∧
      (let st := s.sto.stored.get b
       let passedOver := s.sys.defsel ∧ b ≠ .heaterState ∧ ¬(b = .dutyRules ∧ s.sto.lock)
       t.sto.working.get b =
            (if passedOver then blockDefaults b
             else if st.good b then st.data
             else if b = .heaterState then heaterStateBad
             else blockDefaults b) ∧
          t.sto.loadResult.get b =
            (if passedOver then .byDefsel else if st.good b then .loaded else .badCheck) ∧
          t.sto.held.get b = if st.good b then some st.crc else none) ∧
      t.sto.uncommitted.get b = false ∧
      (∀ b', b' ≠ b →
        t.sto.working.get b' = s.sto.working.get b' ∧ t.sto.loadResult.get b' = s.sto.loadResult.get b' ∧
          t.sto.held.get b' = s.sto.held.get b' ∧ t.sto.uncommitted.get b' = s.sto.uncommitted.get b') ∧
      t.sto = { s.sto with
        working := t.sto.working, loadResult := t.sto.loadResult, held := t.sto.held,
        uncommitted := t.sto.uncommitted } ∧
      (b ≠ .signals → b ≠ .timers → t = { s with sys := t.sys, sto := t.sto }) ∧
      (b = .signals →
        t = { s with
          sys := t.sys
          sto := t.sto
          ntq :=
            ⟨[⟨.restarted, .ntq, match s.sys.cause with | .powerOn => 0 | .pin => 1 | .reinitialise => 2, 0, 1,
                s.tmr.seconds⟩], 0, none, none, none⟩ }) ∧
      (b = .timers →
        t = { s with
            sys := t.sys, sto := t.sto, out := t.out, htr := t.htr, cool := t.cool, lgt := t.lgt, rsv := t.rsv,
            tmr := t.tmr, ntq := t.ntq } ∧
          t.out = { s.out with
            mapInForce := t.set.chanMap.chanMap, masterFreq := t.set.masterFreq,
            recs := recsOf t.set.chanMap.chanMap (holding s), stroke := .start } ∧
          t.htr = { Heater.start with
            target := t.set.defaultTarget, lockout := lockoutOf t.set.heaterState,
            state := if (lockoutOf t.set.heaterState).flag then .lockout else .off } ∧
          t.cool.on = t.set.coolingEnabled ∧ t.cool.setpoint = t.set.coolingSetpoint ∧
          t.cool.state = (if t.set.coolingEnabled ∧ coolingFitted t then .minOff else .off) ∧
          t.cool.minOff = s.cool.minOff ∧ t.cool.sinceOff = s.cool.sinceOff ∧
          (t.cool.state = .minOff → t.cool.offLeft = 180000) ∧
          t.cool.failures = 0 ∧ t.cool.fault = .none ∧ t.cool.step = .none ∧ t.cool.cspd = 0 ∧
          t.cool.degraded = false ∧ t.cool.shed = false ∧ t.cool.stopPending = false ∧
          t.ntq =
            defaultsPosted t.sto s.tmr.seconds
              (posted s .coolingState (if t.cool.state = .minOff then 1 else 0) 11) ∧
          t.lgt = Lights.start t.set.onLevelLower t.set.onLevelUpper (s.rsv.band == .cutoff) ∧
          t.rsv = { s.rsv with allowance := t.set.allowance, ladder := t.set.reserve.ladder, stack := [] } ∧
          t.tmr = { s.tmr with table := tableOf t.set.timers.weekly })

/-- R72, R79 on the cooling record at the setting of the fallback flag: a run goes on with its step chosen anew as MID, or
HIGH under an open lid without the eco cap; in MIN_OFF the off time left becomes the larger of its present value and the
fallback off time less the time since switch-off. -/
def Sys2Proof.Machine.FallbackBegun (w : Working) (c c' : Cooling) : Prop :=
  let step : Speed := if c.lidSets.isSome ∧ c.degraded = false then .high else .mid
  c' =
    if c.state = .running then
      { c with
        fallback := true, step := step, stepSets := 0
        cspd := if step = .high then w.speedHigh else w.speedMid }
    else if c.state = .minOff then
      { c with fallback := true, offLeft := max c.offLeft (60000 * w.fallbackOff - c.sinceOff) }
    else { c with fallback := true }

/-- Tier 2. The end of settling judges every sensor, puts held keys in IGNORED and reports a lockout; a TSF judged FAULT sets
the fallback, with the off time left of MIN_OFF that follows (R8, R10, R66, R72, R79). That the SENSOR_FAULT notices come in
the order TSC, TSX, TSF and before HEATER_LOCKOUT is the model's choice (log 16). -/
def Obligations.SettlingEndJudgesSensorsAndKeys : Prop :=
  ∀ s : State, s.sys.phase = .settling → s.sys.loads = 10 → 16 ≤ s.meas.sets →
    ∃ t, exec .settlingEnd s = .next t ∧
      t = { s with sys := t.sys, meas := t.meas, cool := t.cool, ntq := t.ntq } ∧
      t.sys = { s.sys with phase := .running } ∧
      (∀ x, t.meas.sensor x =
        { s.meas.sensor x with validity := if 0 < (s.meas.sensor x).inRun then .valid else .fault }) ∧
      (∀ k, t.key k = if (s.key k).deb.level then { s.key k with cls := .ignored } else s.key k) ∧
      t.meas = { s.meas with tsc := t.meas.tsc, tsx := t.meas.tsx, tsf := t.meas.tsf, keys := t.meas.keys } ∧
      (if (s.meas.sensor .tsf).inRun = 0 then FallbackBegun s.set s.cool t.cool else t.cool = s.cool) ∧
      (let faults := [Sensor.tsc, .tsx, .tsf].filter fun x => decide ((s.meas.sensor x).inRun = 0)
       let q := faults.foldl
         (fun q x => q.post s.tmr.seconds .sensorFault (if (s.meas.sensor x).lastLow then 0 else 1) (sensorNumber x))
         s.ntq
       t.ntq =
         if s.htr.state = .lockout then
           q.post s.tmr.seconds .heaterLockout (causeCode s.htr.lockout.cause).toNat s.htr.lockout.count
         else q)

/-! ### Lights and alert parts (R84, R91, R93 to R95) -/

/-- The other lights and the rest of the light unit stand. -/
def Sys2Proof.Machine.OnlyLight (l : Light) (s t : State) : Prop :=
  (∀ l', l' ≠ l → t.light l' = s.light l') ∧ t.lgt = { s.lgt with recs := t.lgt.recs }

/-- The queue after the PROGRAM_END notices of programs of a light that end in one event with one reason (R91). -/
def Sys2Proof.Machine.endsPosted (l : Light) (reason : Nat) (ended : List Program) (s : State) : Ntq :=
  ended.foldl
    (fun q x => q.post s.tmr.seconds .programEnd reason (256 * (consumerNumber (lightConsumer l) : Int) + x.tag)) s.ntq

/-- The applied level of R84. -/
def Sys2Proof.Machine.levelShown (l : Light) (t : State) : Nat :=
  let r := t.light l
  if t.lgt.cutoffHold then (if l = .chime ∧ r.playing.isSome then r.present else 0)
  else if r.shed then 0
  else if r.degraded then min r.present 30
  else r.present

/-- After an event of a light, its applied level is that of R84, and its consumer's record stands at the demand of that
level if the level changed. -/
def Sys2Proof.Machine.Shown (l : Light) (s t : State) : Prop :=
  let r := t.light l
  r.applied = levelShown l t ∧
    if r.applied = (s.light l).applied then t.out = s.out
    else
      (t.chan (lightConsumer l)).demands
          (if r.applied = 0 then (.off, none) else (.duty, some ((r.applied * r.applied + 5) / 10))) ∧
        OnlyDemanded [lightConsumer l] s t

/-- The class of a pattern in Table 57: 0 for INFO, 1 for WARNING, 2 for URGENT. -/
def Sys2Proof.Machine.alertRank : Pattern → Nat
  | .wake | .drivePrewarn | .dailyPrewarn | .reserveStep => 0
  | .driveLimit | .dailyLimit | .restShort => 1
  | .heaterLockout | .cutoff => 2

/-- The duration in ms of a pattern's part on a consumer (Table 57): beeps of 300 ms, tones of 1 500 ms, the one tone of
REST_SHORT, blinks of 600 ms. Only HEATER_LOCKOUT and WAKE have a part on BUNK_LOWER, and that of WAKE has no duration of its
own. -/
def Sys2Proof.Machine.partTime (pat : Pattern) : Light → Nat
  | .chime =>
    match pat with
    | .wake => 900
    | .drivePrewarn | .dailyPrewarn => 600
    | .driveLimit | .dailyLimit => 1500
    | .restShort => 1000
    | .reserveStep => 300
    | .heaterLockout | .cutoff => 4500
  | .lower => 1800
  | .upper => 0

/-- The level of a part `ms` after its start (R93): beeps of 150 ms, tones of 1 000 ms, blinks of 300 ms. -/
def Sys2Proof.Machine.partLevelAt (pat : Pattern) (ms : Nat) : Light → Nat
  | .chime =>
    match pat with
    | .restShort => 100
    | .heaterLockout | .cutoff => if ms % 1500 < 1000 then 100 else 0
    | .wake | .drivePrewarn | .dailyPrewarn | .driveLimit | .dailyLimit | .reserveStep =>
      if ms % 300 < 150 then 100 else 0
  | .lower => if ms % 600 < 300 then 100 else 0
  | .upper => 0

/-- The record of a light on which a part starts (R95, R96): the active program and a steady ramp are gone, and the present
level is the first of the part. -/
def Sys2Proof.Machine.partStarted (pat : Pattern) (l : Light) (wakeRamp : Nat) (r : LightRec) : LightRec :=
  let wakes := pat = .wake ∧ l = .lower
  { r with
    active := none
    ramp := none
    playing := some ⟨pat, 0, if wakes then some ⟨0, 60, wakeRamp, 0⟩ else none⟩
    present := if wakes then 0 else partLevelAt pat 0 l }

/-- R94, R95: a part of a requested alert is placed on a consumer between the states `s` and `t`, by the first of the eight
checks that applies; each part that leaves, or is not placed, is reported with its outcome (Table 58), and the chime part of
WAKE then sets the chime-done flag (R96). -/
def Sys2Proof.Machine.PartPlaced (pat : Pattern) (l : Light) (s t : State) : Prop :=
  let r := s.light l
  let rank := alertRank pat
  let value (p : Pattern) : Int := 16 * (patternNumber p : Int) + consumerNumber (lightConsumer l)
  let left (p : Pattern) : Bool := s.lgt.chimeDone || (p == .wake && l == .chime)
  let preempted := endsPosted l 3 (r.active.map (·.prog)).toList s
  let becomes (r' : LightRec) (done : Bool) (q : Ntq) : Prop :=
    t.light l = r' ∧ t.lgt.chimeDone = done ∧ t.ntq = q
  let turnedAway (outcome : Nat) : Prop := becomes r (left pat) (posted s .alertPlayed outcome (value pat))
  let plays := becomes (partStarted pat l s.lgt.wakeRamp r)
  t = { s with lgt := t.lgt, ntq := t.ntq } ∧ (∀ l', l' ≠ l → t.light l' = s.light l') ∧
    t.lgt = { s.lgt with recs := t.lgt.recs, chimeDone := t.lgt.chimeDone } ∧
    if (rank = 0 ∧ s.set.infoEnabled = false) ∨ (rank = 1 ∧ s.set.warningEnabled = false) then turnedAway 4
    else if fitted s (lightConsumer l) = false ∨ (l ≠ .chime ∧ r.shed = true) then turnedAway 5
    else if s.lgt.cutoffHold = true ∧ (l ≠ .chime ∨ rank < 2) then turnedAway 5
    else
      match r.playing with
      | none => plays s.lgt.chimeDone preempted
      | some old =>
        if alertRank old.pattern < rank then
          plays (left old.pattern) (preempted.post s.tmr.seconds .alertPlayed 1 (value old.pattern))
        else
          match r.queued with
          | none => becomes { r with queued := some pat } s.lgt.chimeDone s.ntq
          | some q =>
            if alertRank q ≤ rank then
              becomes { r with queued := some pat } (left q) (posted s .alertPlayed 2 (value q))
            else turnedAway 2

/-- An alert other than WAKE was requested (Table 57): its CHIME part is placed, and that of HEATER_LOCKOUT on BUNK_LOWER
after it (log 16). -/
def Sys2Proof.Machine.AlertRequested (pat : Pattern) (s t : State) : Prop :=
  if pat = .heaterLockout then ∃ u, PartPlaced pat .chime s u ∧ PartPlaced pat .lower u t
  else PartPlaced pat .chime s t

/-- The same at an event of the seconds, which comes between two sample sets: a chime-done flag that the request sets is not yet
found by a set (log 72). -/
def Sys2Proof.Machine.AlertBetween (pat : Pattern) (s t : State) : Prop :=
  ∃ u, AlertRequested pat s u ∧
    t = { u with lgt := { u.lgt with
      chimeFresh := s.lgt.chimeFresh || (!s.lgt.chimeDone && u.lgt.chimeDone) } }

/-- R85, R90 on a light record: step `n` of run `run` of a program begins from the present level. With ramp time 0 its level is
shown at once and held; otherwise it ramps there from the present level, which does not move yet. A steady ramp is dropped. -/
def Sys2Proof.Machine.stepBegun (r : LightRec) (p : Program) (run n : Nat) (st : PStep) : LightRec :=
  { r with
    ramp := none
    present := if st.ramp = 0 then st.level else r.present
    active := some ⟨p, run, n, if st.ramp = 0 then .hold 0 else .ramp ⟨r.present, st.level, st.ramp, 0⟩, 0⟩ }

/-- A step of a program began, from the record `r` to the record `r'` (R90). Every program that LOAD PROGRAM forms has the
step. -/
def Sys2Proof.Machine.StepBegan (p : Program) (run n : Nat) (r r' : LightRec) : Prop :=
  r'.active.map (fun b => (b.prog, b.run, b.step, b.age)) = some (p, run, n, 0) ∧
    ∀ st, p.steps[n - 1]? = some st → r' = stepBegun r p run n st

/-- R85, R90, R93 on one light record at a set: the present level of its source and the timings of that source. -/
def Sys2Proof.Machine.lightCounted (l : Light) (r : LightRec) : LightRec :=
  let level (m : Ramp) : Nat :=
    let elapsed := (m.sets + 1) / 2 * 20
    if m.time ≤ elapsed then m.target
    else ((m.start : Int) + (((m.target : Int) - m.start) * elapsed).tdiv m.time).toNat
  let on (m : Ramp) : Ramp := { m with sets := m.sets + 1 }
  match r.playing, r.active, r.ramp with
  | some k, _, _ =>
    { r with
      playing := some ⟨k.pattern, k.sets + 1, k.ramp.map on⟩
      present :=
        if k.pattern = .wake ∧ l = .lower then
          (match k.ramp with | some m => level m | none => r.present)
        else if 10 * (k.sets + 1) < partTime k.pattern l then partLevelAt k.pattern (10 * (k.sets + 1)) l
        else r.present }
  | none, some a, _ =>
    match a.phase with
    | .ramp m => { r with active := some { a with phase := .ramp (on m), age := a.age + 1 }, present := level m }
    | .hold n => { r with active := some { a with phase := .hold (n + 1), age := a.age + 1 } }
  | none, none, some m => { r with ramp := some (on m), present := level m }
  | none, none, none => r

/-! ### The speed step (R72, Table 49) -/

/-- The speed step that R72 chooses: the base step from T and the effective setpoint or the fallback, HIGH with the lid open,
at most MID under the eco cap. -/
def Sys2Proof.Machine.speedChosen (s : State) : Speed :=
  let x := s.meas.tsf.reported - (s.cool.setpoint + if s.cool.degraded then s.set.ecoOffset else 0)
  let base : Speed :=
    if s.cool.lidSets.isSome then .high
    else if s.cool.fallback then .mid
    else if 40 ≤ x then .high
    else if 20 ≤ x then .mid
    else .low
  if s.cool.degraded ∧ base = .high then .mid else base

/-- The CSPD duty of a speed step (Table 49). -/
def Sys2Proof.Machine.speedDuty (w : Working) : Speed → Nat
  | .none => 0
  | .low => w.speedLow
  | .mid => w.speedMid
  | .high => w.speedHigh

/-! ### What a ladder step does at its owner (R59, R60, R76, R77, R97, R98) -/

/-- R60 from the heater record `h` to the state `t`: the stop by SHED or CUTOFF. -/
def Sys2Proof.Machine.HeaterShed (h : Heater) (t : State) : Prop :=
  match h.state with
  | .check | .glow | .waitDemand => t.htr.state = .off ∧ t.htr.runTimer = .absent ∧ heaterOk t
  | .prime | .ignition =>
    t.htr.state = .purge ∧ heaterOk t ∧ t.htr.purge = some ⟨.off, none, decide (h.attempts = 1), false, false, 0⟩
  | .stabilise | .run =>
    t.htr.state = .purge ∧ heaterOk t ∧ t.htr.purge = some ⟨.off, none, false, false, false, 0⟩
  | .purge =>
    t.htr.state = .purge ∧
      t.htr.purge = h.purge.map fun q =>
        if q.next = .lockout ∨ q.next = .off then q else { q with next := .off, cause := none }
  | .off | .lockout => t.htr.state = h.state ∧ t.htr.purge = h.purge

/-- R59 from the heater record `h` to the state `t`, the heater being in the same state: a stage above 1 in RUN becomes 1, with
a ramp and the stage time restarted; otherwise the step changes nothing. -/
def Sys2Proof.Machine.HeaterCapped (h : Heater) (t : State) : Prop :=
  if h.state = .run ∧ 1 < h.stage then
    t.htr.stage = 1 ∧ t.htr.stageSets = 0 ∧ t.htr.ramp = some ⟨t.htr.peff, t.set.stagePower 1, 0⟩ ∧
      (t.chan .fan).demands (.duty, some (t.set.stageFanDuty 1))
  else t.htr.stage = h.stage

/-- R77 from the cooling record `c` to the state `t`: a run of 60 s stops, a switch-off if the record was driving; a shorter
one goes on with the stop pending; in any other state nothing but the flag changes. -/
def Sys2Proof.Machine.CompressorShed (c : Cooling) (driving : Bool) (t : State) : Prop :=
  t.cool.shed = true ∧
    if c.state = .running then
      if 6000 ≤ c.runSets then
        t.cool.state = .minOff ∧ (t.chan .compressor).demands (.off, none) ∧
          t.cool.minOff = (if driving then 180000 else c.minOff) ∧
          t.cool.offLeft =
            (if c.fallback then max t.cool.minOff (60000 * t.set.fallbackOff) else t.cool.minOff) ∧
          t.cool.step = .none ∧ t.cool.cspd = 0 ∧ t.cool.runSets = 0 ∧ t.cool.stopPending = false
      else t.cool.state = .running ∧ t.cool.stopPending = true ∧ t.cool.runSets = c.runSets
    else t.cool.state = c.state ∧ t.cool.stopPending = c.stopPending

/-- R72, R76 from the cooling record `c` to the state `t`: in RUNNING the step is chosen anew under the eco cap, with the step
time kept, and CSPD takes its duty. -/
def Sys2Proof.Machine.CompressorEco (c : Cooling) (t : State) : Prop :=
  t.cool.degraded = true ∧
    (t.cool.state = .running →
      t.cool.step = speedChosen t ∧ t.cool.cspd = speedDuty t.set t.cool.step ∧ t.cool.stepSets = c.stepSets)

/-- R98 from the light record `r` to the state `t`: programs and parts are gone, the steady level is the present one, and the
applied level is 0, with the demand OFF. -/
def Sys2Proof.Machine.LampShed (l : Light) (r : LightRec) (t : State) : Prop :=
  t.light l = { r with
    shed := true, active := none, waiting := [], playing := none, queued := none, ramp := none, present := r.steady
    applied := 0, degraded := (t.light l).degraded } ∧
    (r.applied ≠ 0 → (t.chan (lightConsumer l)).demands (.off, none))

/-- R97 in the state `t`: the flag is set, and the applied level is the capped one. -/
def Sys2Proof.Machine.LampCapped (l : Light) (t : State) : Prop :=
  (t.light l).degraded = true ∧ (t.light l).applied = levelShown l t

/-- A ladder step has reached its owner, from the state `s` to the state `t`. -/
def Sys2Proof.Machine.StepReached (x : LadderStep) (s t : State) : Prop :=
  match x.consumer, x.action with
  | .heater, .shed => HeaterShed s.htr t
  | .heater, .degrade => HeaterCapped s.htr t
  | .compressor, .shed => CompressorShed s.cool (decide ((s.chan .compressor).state = .driving)) t
  | .compressor, .degrade => CompressorEco s.cool t
  | .bunkLower, .shed => LampShed .lower (s.light .lower) t
  | .bunkLower, .degrade => LampCapped .lower t
  | .bunkUpper, .shed => LampShed .upper (s.light .upper) t
  | .bunkUpper, .degrade => LampCapped .upper t

/-- The parts of the state that a ladder step may change at its owner, from `s` to `t`, beside the account itself. -/
def Sys2Proof.Machine.StepTouches (x : LadderStep) (s t : State) : Prop :=
  match x.consumer with
  | .heater =>
    t = { s with htr := t.htr, out := t.out, rsv := t.rsv, ntq := t.ntq } ∧ OnlyDemanded [.fan, .glow, .pump] s t
  | .compressor =>
    t = { s with cool := t.cool, out := t.out, rsv := t.rsv, ntq := t.ntq } ∧ OnlyDemanded [.compressor] s t
  | .bunkLower =>
    t = { s with lgt := t.lgt, out := t.out, rsv := t.rsv, ntq := t.ntq } ∧ OnlyLight .lower s t ∧ Shown .lower s t
  | .bunkUpper =>
    t = { s with lgt := t.lgt, out := t.out, rsv := t.rsv, ntq := t.ntq } ∧ OnlyLight .upper s t ∧ Shown .upper s t

/-- The restore of a compressor or light step at its owner, from `s` to `t` (R76, R77, R97, R98). -/
def Sys2Proof.Machine.StepRestored (x : LadderStep) (s t : State) : Prop :=
  let lamp (l : Light) : Prop :=
    let r := s.light l
    match x.action with
    | .degrade => t.light l = { r with degraded := false, applied := (t.light l).applied }
    | .shed =>
      t.light l =
        if r.playing.isNone ∧ r.active.isNone then
          { r with shed := false, ramp := none, present := r.steady, applied := (t.light l).applied }
        else { r with shed := false, applied := (t.light l).applied }
  match x.consumer with
  | .heater => True
  | .compressor =>
    t.out = s.out ∧
      match x.action with
      | .degrade => t.cool = { s.cool with degraded := false }
      | .shed => t.cool = { s.cool with shed := false, stopPending := false }
  | .bunkLower => lamp .lower
  | .bunkUpper => lamp .upper

/-- The queue after the notices of a light whose programs and parts a SHED step ends (R91, R95, R98). -/
def Sys2Proof.Machine.lampShedPosted (l : Light) (s : State) (q : Ntq) : Ntq :=
  let r := s.light l
  let left (p : Pattern) (q : Ntq) : Ntq :=
    q.post s.tmr.seconds .alertPlayed 5 (16 * (patternNumber p : Int) + consumerNumber (lightConsumer l))
  let q := endsPosted l 4 ((r.active.map (·.prog)).toList ++ r.waiting) { s with ntq := q }
  let q := match r.playing with
    | some k => left k.pattern q
    | none => q
  match r.queued with
  | some p => left p q
  | none => q

/-- The queue after the notices of ladder step `n` applied in the state `s` with a cause of Table 83: those of its owner, then
SHED_STEP (R63, R80, R91, R95, R145). -/
def Sys2Proof.Machine.stepPosted (cause n : Nat) (x : LadderStep) (s : State) (q : Ntq) : Ntq :=
  let now := s.tmr.seconds
  let owner : Ntq :=
    match x.consumer, x.action with
    | .heater, .shed =>
      match s.htr.state with
      | .check | .glow | .waitDemand => q.post now .heaterState 0 0
      | .prime | .ignition | .stabilise | .run => q.post now .heaterState 7 0
      | .purge =>
        match s.htr.purge with
        | some p => if p.next = .lockout ∨ p.next = .off then q else q.post now .heaterState 7 0
        | none => q
      | .off | .lockout => q
    | .compressor, .shed =>
      if s.cool.state = .running ∧ 6000 ≤ s.cool.runSets then q.post now .coolingState 1 8 else q
    | .bunkLower, .shed => lampShedPosted .lower s q
    | .bunkUpper, .shed => lampShedPosted .upper s q
    | _, .degrade => q
  owner.post now .shedStep cause n

/-! ### The words for what else may happen at a sample set -/

/-- No reading of the set is an overcurrent (R27). -/
def Sys2Proof.Machine.NoOvercurrent (r : RawSet) : Prop := ∀ i : Channel, 5 * (channelGet r.current i).toNat < 9000

/-- Between the states before and after a set: no hold of the output stage began or ended. -/
def Sys2Proof.Machine.HoldStands (s t : State) : Prop :=
  (holding s = false ∧ holding t = false) ∨ (s.out.floorHold = true ∧ t.out.floorHold = true) ∨
    (s.out.thermalHold = true ∧ t.out.thermalHold = true)

/-- Between the states before and after a set: no record was latched, no hold began or ended, and no ladder step was
applied. -/
def Sys2Proof.Machine.CalmSet (s t : State) : Prop :=
  (∀ c, (t.chan c).state = .latched → (s.chan c).state = .latched) ∧ HoldStands s t ∧ t.rsv.stack = s.rsv.stack

/-- The queue holds the records of `q`, with its lost count. -/
def Sys2Proof.Machine.QueueIs (q : Ntq) (t : State) : Prop := t.ntq.records = q.records ∧ t.ntq.lost = q.lost

/-- The heater is in a state in which a sample set makes no test (R43, R48, R53 to R55). -/
def Sys2Proof.Machine.Untested (s : State) : Prop :=
  s.htr.state = .off ∨ s.htr.state = .check ∨ s.htr.state = .glow ∨ s.htr.state = .lockout

/-- The heater entered a state at a set: the demands of Table 32 stand, and at a set without an overcurrent and with the
compressor not running its notice is the one notice posted (R63). -/
def Sys2Proof.Machine.EnteredAtSet (r : RawSet) (st : HState) (value : Int) (s t : State) : Prop :=
  t.htr.state = st ∧ t.htr.stateSets = 0 ∧ heaterOk t ∧
    (NoOvercurrent r → s.cool.state ≠ .running →
      QueueIs (posted s .heaterState (heaterNumber st) value) t)

/-- TSX is VALID and reads at or above the overheat limit (R55). -/
abbrev Sys2Proof.Machine.Overheated (t : State) : Prop :=
  t.meas.tsx.validity = .valid ∧ t.set.overheatLimit ≤ t.meas.tsx.reported

/-! ### The tests of the heater at a sample set -/

/-- R43, R46, R55 at a sample set in IGNITION, between the states before and after it. An expiry of the window that falls on
the set is taken first if the set says so (log 17); then the flame is not tested. -/
def Sys2Proof.Machine.IgnitionTested (r : RawSet) (s t : State) : Prop :=
  let tsx := t.meas.tsx
  let e := s.htr.target - t.meas.cabMean
  let stage :=
    if s.htr.mode = .fixed then s.htr.fixedStage
    else if t.meas.tsc.validity = .valid then (if 30 ≤ e then 4 else if 15 ≤ e then 3 else if 5 ≤ e then 2 else 1)
    else 1
  if r.expiryFirst = true ∧ 100 * s.htr.stateLen ≤ s.htr.stateSets + 1 then
    t.htr.state = .purge ∧ t.htr.stateSets = 0 ∧ heaterOk t ∧ t.htr.flame = false ∧
      t.htr.attempts = s.htr.attempts - 1 ∧
      (1 < s.htr.attempts → ¬Overheated t →
        t.htr.purge = some ⟨.retry, none, true, false, false, 0⟩ ∧ EnteredAtSet r .purge 1 s t) ∧
      (1 < s.htr.attempts → Overheated t → t.htr.purge = some ⟨.lockout, some .overheat, true, false, false, 0⟩) ∧
      (s.htr.attempts ≤ 1 →
        t.htr.purge = some ⟨.lockout, some .noFlame, true, false, false, 0⟩ ∧ EnteredAtSet r .purge 3 s t)
  else if Overheated t then
    t.htr.state = .purge ∧ t.htr.stateSets = 0 ∧ heaterOk t ∧ t.htr.attempts = s.htr.attempts ∧
      t.htr.purge = some ⟨.lockout, some .overheat, false, false, false, 0⟩
  else if tsx.validity = .valid ∧ s.htr.tRef + s.set.ignitionRise ≤ tsx.reported then
    EnteredAtSet r .stabilise 0 s t ∧ t.htr.flame = true ∧ t.htr.stage = stage ∧ t.htr.stageSets = 0 ∧
      t.htr.ramp = some ⟨t.htr.peff, s.set.stagePower stage, 0⟩ ∧
      (t.chan .fan).demands (.duty, some (s.set.stageFanDuty stage)) ∧ t.htr.attempts = s.htr.attempts ∧
      t.htr.restarts = s.htr.restarts ∧ t.htr.nextStroke = s.htr.nextStroke
  else t.htr.state = .ignition ∧ t.htr.stateSets = s.htr.stateSets + 1 ∧ t.htr.attempts = s.htr.attempts

/-- R54, R55 at a sample set in PRIME, STABILISE or RUN, between the states before and after it. -/
def Sys2Proof.Machine.FlameGuarded (r : RawSet) (s t : State) : Prop :=
  let tsx := t.meas.tsx
  if s.htr.state ≠ .prime ∧ tsx.validity = .valid ∧ tsx.reported < 1000 ∧
      ∃ top ∈ t.htr.peakRing, tsx.reported + 200 ≤ top then
    t.htr.state = .purge ∧ t.htr.stateSets = 0 ∧ heaterOk t ∧ t.htr.flame = false ∧
      (0 < s.htr.restarts →
        t.htr.restarts = 0 ∧ t.htr.attempts = 2 ∧
          (¬Overheated t →
            t.htr.purge = some ⟨.retry, none, true, false, false, 0⟩ ∧ EnteredAtSet r .purge 1 s t) ∧
          (Overheated t → t.htr.purge = some ⟨.lockout, some .overheat, true, false, false, 0⟩)) ∧
      (s.htr.restarts = 0 →
        t.htr.restarts = 0 ∧ t.htr.attempts = s.htr.attempts ∧
          t.htr.purge = some ⟨.lockout, some .flameOut, true, false, false, 0⟩ ∧ EnteredAtSet r .purge 3 s t)
  else if Overheated t then
    EnteredAtSet r .purge 3 s t ∧ t.htr.purge = some ⟨.lockout, some .overheat, false, false, false, 0⟩ ∧
      t.htr.flame = false ∧ t.htr.attempts = s.htr.attempts ∧ t.htr.restarts = s.htr.restarts
  else t.htr.state = s.htr.state ∧ t.htr.stateSets = s.htr.stateSets + 1

/-- R53, R55 at a sample set in a purge with record `k`, between the states before and after it. A purge that ends in
WAIT_DEMAND at a recomputation of the 10 s cab mean meets the thermostat at the same set (R49; log 15). -/
def Sys2Proof.Machine.PurgeTested (r : RawSet) (k : Purge) (s t : State) : Prop :=
  let tsx := t.meas.tsx
  let timeLeft : Bool := match s.htr.runTimer with
    | .left n => decide (1 < n)
    | x => x == .unlimited
  if k.suspended = false ∧ k.fullLength = false ∧ 100 * s.set.purgeMin ≤ k.sets + 1 ∧ tsx.validity = .valid ∧
      tsx.reported < s.set.purgeCool then
    t.htr.purge = none ∧
      match k.next with
      | .off => EnteredAtSet r .off 0 s t ∧ t.htr.runTimer = .absent
      | .retry =>
        EnteredAtSet r .check 0 s t ∧ t.htr.origin = .retry ∧ t.htr.attempts = s.htr.attempts ∧
          t.htr.restarts = s.htr.restarts ∧ (∀ n, s.htr.runTimer = .left n → t.htr.runTimer = .left (n - 1)) ∧
          (s.htr.runTimer = .unlimited → t.htr.runTimer = .unlimited) ∧
          t.htr.startFan = s.set.startFanDuty ∧ t.htr.glowTarget = s.set.glowTarget
      | .waitDemand =>
        if (s.meas.sets + 1) % 100 = 0 ∧ s.htr.mode = .thermostat ∧ t.meas.tsc.validity = .valid ∧ timeLeft = true ∧
            10 ≤ s.htr.target - t.meas.cabMean then
          t.htr.state = .check ∧ t.htr.origin = .waitDemand ∧ heaterOk t
        else EnteredAtSet r .waitDemand 0 s t ∧ t.htr.restartWait = 0
      | .lockout =>
        t.htr.state = .lockout ∧ t.htr.stateSets = 0 ∧ heaterOk t ∧ t.htr.runTimer = .absent ∧ PartWritten s t ∧
          t.htr.lockout =
            { s.htr.lockout with flag := true, cause := k.cause, count := satSucc 255 s.htr.lockout.count }
  else
    t.htr.state = .purge ∧ t.htr.stateSets = s.htr.stateSets + 1 ∧
      let sets := if k.suspended then k.sets else k.sets + 1
      if Overheated t then
        t.htr.purge = some { k with
          sets := sets, next := .lockout, cause := if k.next = .lockout then k.cause else some .overheat } ∧
        (NoOvercurrent r → s.cool.state ≠ .running →
          QueueIs (if k.next = .lockout then s.ntq else posted s .heaterState 7 3) t)
      else t.htr.purge = some { k with sets := sets }

/-! ### Measurement unit -/

/-- R5, R7 on one sensor at a set: its state before and after, its window, its conversion and the input in mV. -/
def Sys2Proof.Machine.Sampled (lo hi : Nat) (conv : Nat → Int) (v : Nat) (old new : SensorState) : Prop :=
  new.validity = old.validity ∧
    if lo ≤ v ∧ v ≤ hi then
      new.filter = pushRing 8 old.filter (conv v) ∧ new.inRun = satSucc 255 old.inRun ∧ new.outRun = 0 ∧
        new.reported =
          (if old.validity = .fault then old.reported else new.filter.sum.tdiv new.filter.length)
    else
      new.filter = old.filter ∧ new.outRun = satSucc 255 old.outRun ∧ new.inRun = 0 ∧
        new.reported = old.reported ∧ new.lastLow = decide (v < lo)

/-- R9 on one discrete input at a set: its raw level, its debounce count, and whether the set is the first of all. -/
def Sys2Proof.Machine.Debounced (need : Nat) (first raw : Bool) (old new : Debounce) : Prop :=
  if first = true then new = ⟨raw, 0⟩
  else new.level = old.level ∧ new.count = if raw = old.level then 0 else satSucc need old.count

/-- A consumer's channels had an on-phase in the set that ends, its pulse counted by the ms in the 10 ms of the set (R3,
R24; log 19). -/
def Sys2Proof.Machine.HadOnPhase (s : State) (c : Consumer) : Prop :=
  (s.chan c).state = .driving ∧
    match (s.chan c).mode with
    | .off => False
    | .duty | .compensated => 0 < (s.chan c).applied
    | .stroke => 0 < strokeOnTime { s with meas := { s.meas with sets := s.meas.sets + 1 } }

/-- Tier 2. A sample set scales and filters the supply, the three sensors and the die, records the on-currents with their
histories, keeps the cab second and its 10 s mean, and counts the debounce of each input and the hold time of each key (R1
to R7, R9, R10); it leaves the link, the clocks and the duty clock alone. That the reported value of a sensor that is not
yet judged follows its filter is the model's choice (log 18); that the on-phase of PUMP, and so its recorded on-current, is that
of the ms of a pulse placed on the 10 ms of the set is its reading (log 19). -/
def Obligations.SampleSetFiltersTheReadings : Prop :=
  ∀ (r : RawSet) (s : State), Awake s →
    ∃ t, exec (.sampleSet r) s = .next t ∧
      t = { s with
        meas := t.meas, out := t.out, htr := t.htr, cool := t.cool, lgt := t.lgt, rsv := t.rsv, ntq := t.ntq,
        sto := t.sto } ∧
      t.meas.sets = s.meas.sets + 1 ∧
      t.meas.vbatRing = pushRing 16 s.meas.vbatRing (10 * r.vbat.toNat) ∧
      t.meas.vbatF = t.meas.vbatRing.sum / t.meas.vbatRing.length ∧
      Sampled 100 1750 (fun v => v - 500) r.tsc.toNat s.meas.tsc t.meas.tsc ∧
      Sampled 240 1400 (fun v => (((v : Int) - 400) * 5).tdiv 2) r.tsx.toNat s.meas.tsx t.meas.tsx ∧
      Sampled 100 1750 (fun v => v - 500) r.tsf.toNat s.meas.tsf t.meas.tsf ∧
      t.meas.dieFilter = pushRing 8 s.meas.dieFilter ((r.die.toNat : Int) - 500) ∧
      t.meas.dieReported = t.meas.dieFilter.sum.tdiv t.meas.dieFilter.length ∧
      (∀ i : Channel,
        (∀ c, i ∈ (s.chan c).chans → HadOnPhase s c →
          channelGet t.meas.onCurrent i = 5 * (channelGet r.current i).toNat) ∧
        ((∀ c, i ∈ (s.chan c).chans → ¬HadOnPhase s c) → channelGet t.meas.onCurrent i = 0) ∧
        channelGet t.meas.history i = pushRing 100 (channelGet s.meas.history i) (channelGet t.meas.onCurrent i)) ∧
      (let reading : Int :=
         if s.meas.tsc.validity = .fault ∧ 10 ≤ t.meas.tsc.inRun then
           t.meas.tsc.filter.sum.tdiv t.meas.tsc.filter.length
         else t.meas.tsc.reported
       if (s.meas.sets + 1) % 100 = 0 then
         t.meas.secSum = 0 ∧
           t.meas.cabRing = pushRing 10 s.meas.cabRing ((s.meas.secSum + reading).tdiv 100) ∧
           t.meas.cabMean = t.meas.cabRing.sum.tdiv t.meas.cabRing.length
       else
         t.meas.secSum = s.meas.secSum + reading ∧ t.meas.cabRing = s.meas.cabRing ∧
           t.meas.cabMean = if s.meas.cabRing = [] then reading else s.meas.cabMean) ∧
      Debounced 50 (s.meas.sets == 0) r.ign s.meas.ign t.meas.ign ∧
      Debounced 10 (s.meas.sets == 0) r.lid s.meas.lid t.meas.lid ∧
      ∀ k : Key,
        Debounced 3 (s.meas.sets == 0) (!keyGet r.keys k) (s.key k).deb (t.key k).deb ∧
          (t.key k).cls = (s.key k).cls ∧ (t.key k).nextRepeat = (s.key k).nextRepeat ∧
          (t.key k).hold =
            if (s.key k).cls = .held ∨ (s.key k).cls = .longGiven ∨ (s.key k).cls = .repeating then
              (s.key k).hold + 10
            else (s.key k).hold

/-- Tier 2. R31: the thermal hold is judged at each sample set, starts inactive after a power-on or pin reset, and makes
the THERMAL class active. -/
def Obligations.SampleSetJudgesTheThermalHold : Prop :=
  (∀ (r : RawSet) (s : State), Awake s →
      ∃ t, exec (.sampleSet r) s = .next t ∧
        t.out.thermalHold =
          if 1500 ≤ t.meas.dieReported then true
          else if t.meas.dieReported < 1350 then false
          else s.out.thermalHold) ∧
    (∀ s : State, ∃ t u, exec .powerOnReset s = .next t ∧ t.out.thermalHold = false ∧
      exec .pinReset s = .next u ∧ u.out.thermalHold = false) ∧
    ∀ s : State, s.out.thermalHold = true → (faultClasses s)[3]? = some true

/-- R19 on one duty: moved toward the computed duty by at most the slew limit. -/
def Sys2Proof.Machine.movedToward (limit computed applied : Nat) : Nat :=
  if applied < computed then min computed (applied + limit) else max computed (applied - limit)

/-- H in minutes (R143): the minutes left of an ACTIVE session, rounded up, else the idle horizon. -/
def Sys2Proof.Machine.horizonOf (s : State) : Nat :=
  match s.duty.session with
  | some x => if x.state = .active then (x.start + 60 * x.planned - s.tmr.seconds + 59) / 60 else s.set.idleHorizon
  | none => s.set.idleHorizon

/-- The restore test of R148 for the top record and its step, with the account and the means of `t`. -/
def Sys2Proof.Machine.RestoreTest (top : StackRec) (x : LadderStep) (h : Nat) (t : State) : Prop :=
  let i := max t.rsv.iAvg (t.rsv.iAvg + top.draw - ladderMean x.consumer t)
  let reserve := t.rsv.allowance - t.rsv.drawn
  0 < reserve ∧ (h = 0 ∨ h * 5 / 4 ≤ if i = 0 then 5999 else min 5999 (reserve * 60 / i))

/-- The mark of an applied or restored ladder step at its owner (R76, R77, R97, R98). -/
def Sys2Proof.Machine.stepMark (on : Bool) (x : LadderStep) (t : State) : Prop :=
  match x.consumer, x.action with
  | .compressor, .degrade => t.cool.degraded = on
  | .compressor, .shed => t.cool.shed = on ∧ (on = false → t.cool.stopPending = false)
  | .bunkLower, .degrade => (t.light .lower).degraded = on
  | .bunkLower, .shed => (t.light .lower).shed = on ∧ (on = true → (t.light .lower).applied = 0)
  | .bunkUpper, .degrade => (t.light .upper).degraded = on
  | .bunkUpper, .shed => (t.light .upper).shed = on ∧ (on = true → (t.light .upper).applied = 0)
  | .heater, .degrade => on = true → t.htr.state = .run → t.htr.stage ≤ 1
  | .heater, .shed => on = true → t.htr.state.dosing = false ∧ t.htr.state.starting = false

/-- A ladder step applied at a sample set has reached its owner, whose times counted on before it (log 15), between the
states before and after the set. The heater's tests of the set follow: with the purge minimum above 0 and without an overheat
they leave a new purge as it is. -/
def Sys2Proof.Machine.StepAtSet (r : RawSet) (x : LadderStep) (s t : State) : Prop :=
  let quiet := NoOvercurrent r ∧ HoldStands s t
  stepMark true x t ∧
    match x.consumer, x.action with
    | .heater, .shed =>
      quiet → ¬Overheated t → 0 < s.set.purgeMin → (s.htr.state = .purge → t.htr.state = .purge) →
        HeaterShed
          { s.htr with
            purge := s.htr.purge.map fun q => { q with sets := if q.suspended then q.sets else q.sets + 1 } } t
    | .heater, .degrade => quiet → t.htr.state = s.htr.state → HeaterCapped s.htr t
    | .compressor, .shed =>
      quiet →
        CompressorShed { s.cool with minOff := s.cool.minOff - 10, runSets := s.cool.runSets + 1 }
          (decide ((s.chan .compressor).state = .driving)) t
    | .compressor, .degrade => CompressorEco { s.cool with stepSets := s.cool.stepSets + 1 } t
    | .bunkLower, .shed => LampShed .lower (s.light .lower) t
    | .bunkLower, .degrade => LampCapped .lower t
    | .bunkUpper, .shed => LampShed .upper (s.light .upper) t
    | .bunkUpper, .degrade => LampCapped .upper t

/-- The SHED_STEP record of the queue after a set at which ladder steps were applied shows the cause and the number of the last
of them, wherever the queue had room for it (R145, R166, Table 83). -/
def Sys2Proof.Machine.StepShown (cause n : Nat) (s t : State) : Prop :=
  (∃ q ∈ s.ntq.records, q.kind = .shedStep ∧ q.source = .rsv) ∨ t.ntq.records.length < 32 →
    ∃ q ∈ t.ntq.records, q.kind = .shedStep ∧ q.source = .rsv ∧ q.detail = cause ∧ q.value = n

/-- R145 at a set at which ladder steps were applied: the RESERVE_STEP alert is requested once, after the notices that lead to
the queue `q` (log 16). `q` is compared where nothing else posts at the set. -/
def Sys2Proof.Machine.StepAlerted (r : RawSet) (q : Ntq) (s t : State) : Prop :=
  (t.htr.state = .lockout → s.htr.state = .lockout) →
  ((t.chan .chime).state = .latched → (s.chan .chime).state = .latched) →
  ∃ v : State,
    PartPlaced .reserveStep .chime
        { s with
          lgt := { s.lgt with recs := s.lgt.recs.set .chime (lightCounted .chime (s.light .chime)) }
          ntq := q } v ∧
      t.light .chime = { v.light .chime with applied := (t.light .chime).applied } ∧
      t.lgt.chimeDone = v.lgt.chimeDone ∧
      (NoOvercurrent r → HoldStands s t → Untested s → s.cool.state ≠ .running → QueueIs v.ntq t)

/-- R147, R148 between the states before and after an accounting second: the whole rest of the ladder with the reserve
empty, one step by the projection, or the restore hold; each step reaches its owner, and it is reported with its cause, with
one alert for all. -/
def Sys2Proof.Machine.LadderKept (r : RawSet) (s t : State) : Prop :=
  let l := s.rsv.stack.length
  let h := horizonOf s
  let changed : Prop := t.rsv.lastChange = s.tmr.seconds ∧ t.rsv.restoreHold = 0
  if l < s.rsv.ladder.length ∧ t.rsv.allowance - t.rsv.drawn = 0 then
    t.rsv.stack.length = s.rsv.ladder.length ∧ t.rsv.stack.take l = s.rsv.stack ∧ changed ∧
      (∀ x ∈ s.rsv.ladder.drop l, StepAtSet r x s t) ∧ StepShown 1 s.rsv.ladder.length s t ∧
      ((s.rsv.ladder.drop l).Nodup →
        StepAlerted r (((s.rsv.ladder.drop l).zipIdx (l + 1)).foldl (fun q x => stepPosted 1 x.2 x.1 s q) s.ntq) s t)
  else if l < s.rsv.ladder.length ∧ t.rsv.tLeft < h ∧ (s.rsv.band = .normal ∨ s.rsv.band = .low) ∧
      120 ≤ s.tmr.seconds - s.rsv.lastChange then
    changed ∧ ∀ x, s.rsv.ladder[l]? = some x →
      t.rsv.stack = s.rsv.stack ++ [⟨l + 1, s.tmr.seconds, ladderMean x.consumer t⟩] ∧ StepAtSet r x s t ∧
        StepShown 0 (l + 1) s t ∧ StepAlerted r (stepPosted 0 (l + 1) x s s.ntq) s t
  else
    t.rsv.stack = s.rsv.stack ∧ t.rsv.lastChange = s.rsv.lastChange ∧
      (s.rsv.band ≠ .normal ∨ l = 0 → t.rsv.restoreHold = 0) ∧
      ∀ top x, s.rsv.band = .normal → s.rsv.stack.getLast? = some top → s.rsv.ladder[l - 1]? = some x →
        (RestoreTest top x h t → t.rsv.restoreHold = satSucc 300 s.rsv.restoreHold) ∧
          (¬RestoreTest top x h t → t.rsv.restoreHold = 0)

/-- The thermostat of R48, R49 at a recomputation of the 10 s cab mean, between the states before and after the set, no
ladder step having been applied at it. -/
def Sys2Proof.Machine.ThermostatEvaluated (s t : State) : Prop :=
  let e := t.htr.target - t.meas.cabMean
  let band := if 30 ≤ e then 4 else if 15 ≤ e then 3 else if 5 ≤ e then 2 else 1
  let due : Prop :=
    (s.htr.stage < band ∧ stepApplied s.rsv .heater .degrade = false) ∨ (s.htr.stage = 4 ∧ e ≤ 27) ∨
      (s.htr.stage = 3 ∧ e ≤ 12) ∨ (s.htr.stage = 2 ∧ e ≤ 2)
  let timeLeft : Bool := match s.htr.runTimer with
    | .left n => decide (1 < n)
    | x => x == .unlimited
  (s.htr.state = .run → t.htr.state = .run →
      if t.meas.tsc.validity = .valid ∧ 6000 ≤ s.htr.stageSets + 1 ∧ due then
        t.htr.stage = band ∧ t.htr.stageSets = 0 ∧
          t.htr.ramp = some ⟨t.htr.peff, s.set.stagePower band, 0⟩ ∧
          (t.chan .fan).demands (.duty, some (s.set.stageFanDuty band))
      else t.htr.stage = s.htr.stage ∧ t.htr.stageSets = s.htr.stageSets + 1) ∧
    (s.htr.state = .waitDemand →
      if t.meas.tsc.validity = .valid ∧ s.htr.restartWait ≤ 1 ∧ timeLeft = true ∧ 10 ≤ e then
        t.htr.state = .check ∧ t.htr.origin = .waitDemand
      else t.htr.state = .waitDemand)

/-- R27, R28 on the record of a consumer that tripped at a sample set; a hold that begins at the same set (log 15) takes a
TRIPPED record on to HELD. -/
def Sys2Proof.Machine.TrippedAtSet (c : Consumer) (s t : State) : Prop :=
  (t.chan c).applied = 0 ∧ (t.chan c).lowRun = 0 ∧ (t.chan c).highRun = 0 ∧
    (t.chan c).windowStart = some (((s.chan c).windowStart).getD s.tmr.seconds) ∧
    ((s.chan c).windowStart = none ∨ (s.chan c).trips < 3 →
      (t.chan c).trips = (if (s.chan c).windowStart = none then 1 else (s.chan c).trips + 1) ∧
        if holding t then (t.chan c).state = .held ∨ (t.chan c).state = .tripped
        else (t.chan c).state = .tripped ∧ (t.chan c).retry = some 1000) ∧
    ((s.chan c).windowStart ≠ none → 3 ≤ (s.chan c).trips → (t.chan c).state = .latched ∧ (t.chan c).retry = none)

/-- R58 on the heater at a set without an overcurrent at which the first hold begins, between the states before and after the
set: CHECK and GLOW end as a decline with reason HELD, PRIME to RUN in a suspended purge to LOCKOUT with the cause of the hold,
and a purge is suspended. A floor hold that begins at the set gives the cause also where a thermal hold begins with it (log 33).
The heater's notices come before that of the compressor's stop (log 16). -/
def Sys2Proof.Machine.HeaterHeld (s t : State) : Prop :=
  let cause : Cause := if t.out.floorHold then .supplyLost else .thermal
  let quiet := t.rsv.stack = s.rsv.stack ∧ (s.cool.state = .running → coolingFitted s = true)
  let reported (q : Ntq) : Prop :=
    QueueIs (if s.cool.state = .running then q.post s.tmr.seconds .coolingState 1 7 else q) t
  (s.htr.state = .off ∨ s.htr.state = .lockout → t.htr.state = s.htr.state) ∧
    (s.htr.state.starting = true → t.rsv.stack = s.rsv.stack →
      let st : HState := if s.htr.origin = .waitDemand then .waitDemand else .off
      t.htr.state = st ∧ heaterOk t ∧ (st = .waitDemand → t.htr.restartWait = 30000) ∧
        (st = .off → t.htr.runTimer = .absent) ∧
        (quiet →
          reported
            ((posted s .heaterState (heaterNumber st) 0).post s.tmr.seconds .heaterDeclined 9 0))) ∧
    (s.htr.state.dosing = true →
      t.htr.state = .purge ∧ heaterOk t ∧ t.htr.purge = some ⟨.lockout, some cause, false, true, false, 0⟩ ∧
        t.htr.heldBy = cause ∧ (quiet → reported (posted s .heaterState 7 3))) ∧
    ∀ p, s.htr.state = .purge → s.htr.purge = some p →
      t.htr.state = .purge ∧ t.htr.heldBy = cause ∧
        (t.rsv.stack = s.rsv.stack → ¬Overheated t →
          t.htr.purge =
            some { p with sets := if p.suspended then p.sets else p.sets + 1, suspended := true } ∧
            (quiet → reported s.ntq))

/-- R32 between the states before and after a set at which the first hold begins. -/
def Sys2Proof.Machine.HoldBegun (r : RawSet) (s t : State) : Prop :=
  t.out.stroke.pulse = none ∧
    (∀ c, (s.chan c).chans ≠ [] →
      ((s.chan c).state = .latched → (t.chan c).state = .latched) ∧
        ((s.chan c).state = .off ∨ (s.chan c).state = .driving ∨ (s.chan c).state = .tripped →
          ((t.chan c).state = .held ∨ (t.chan c).state = .latched) ∧ (t.chan c).applied = 0 ∧
            (t.chan c).retry = none ∧ (t.chan c).lowRun = 0 ∧ (t.chan c).highRun = 0)) ∧
    (heaterFitted s = true →
      t.htr.holdSets = 0 ∧ t.htr.state.dosing = false ∧ ∀ p, t.htr.state = .purge → t.htr.purge = some p → p.suspended = true) ∧
    (heaterFitted s = true → NoOvercurrent r → HeaterHeld s t) ∧
    (coolingFitted s = true →
      t.cool.held = true ∧ t.cool.state ≠ .running ∧
        (NoOvercurrent r → t.cool.state = if s.cool.state = .running then .minOff else s.cool.state))

/-- R32 between the states before and after a set at which the last hold ends. -/
def Sys2Proof.Machine.HoldReleased (s t : State) : Prop :=
  (∀ c, (s.chan c).chans ≠ [] → (s.chan c).state = .held →
      (t.chan c).state = (if (t.chan c).mode = .off then .off else .driving) ∧ (t.chan c).applied = 0 ∧
        (t.chan c).retry = none) ∧
    (heaterFitted s = true → ∀ p, t.htr.purge = some p → p.suspended = false) ∧
    (coolingFitted s = true → t.cool.held = false)

/-- Tier 2. At every 100th set the accounting second draws the charge and forms the projection and the horizon, applies
ladder steps or keeps the restore hold, and the thermostat follows the 10 s cab mean in RUN and WAIT_DEMAND (R48, R49, R141
to R143, R147, R148); each step reaches its owner, and a SHED_STEP notice with its cause and one RESERVE_STEP alert report it
(R59, R60, R76, R77, R97, R98, R145). At each set an overcurrent on one record trips it, a duty in force that no ladder step
or end of a purge switches moves by the slew limit, the supply floor is judged, the hold time of the heater counts while a
hold goes on, and the first hold to begin and the last to end reach every record and owner; the first declines a start with
reason HELD and turns PRIME to RUN into a suspended purge to LOCKOUT (R19, R27 to R30, R32, R58). The order of these inside
the set and of the notices is the model's choice (log 15, log 16), and so are the flags of a step whose light or compressor
is not fitted (log 70); that a floor hold and a thermal hold which begin together give the cause SUPPLY_LOST is its reading
(log 33). So is that the thermostat tests the validity of TSC before a transition due at that same set (log 47), and that the
accounting second uses the charge state and the band from before a run complete at that set (log 55). Two overcurrents in one
set, which the statement leaves aside, are judged in the model's order (log 54). -/
def Obligations.AccountingSecondDrawsTheCharge : Prop :=
  (∀ (r : RawSet) (s : State), Awake s → (s.meas.sets + 1) % 100 = 0 →
      ∃ t, exec (.sampleSet r) s = .next t ∧
        t.rsv.iTot = min 200000 ((allConsumers.map fun c => (t.chan c).secMean).sum + s.rsv.external + 35) ∧
        (if s.rsv.charging then t.rsv.drawn = s.rsv.drawn ∧ t.rsv.rem = s.rsv.rem
         else if s.rsv.drawn + (s.rsv.rem + t.rsv.iTot) / 3600 ≤ 999999 then
           t.rsv.drawn = s.rsv.drawn + (s.rsv.rem + t.rsv.iTot) / 3600 ∧
             t.rsv.rem = (s.rsv.rem + t.rsv.iTot) % 3600
         else t.rsv.drawn = 999999 ∧ t.rsv.rem = 3599) ∧
        t.rsv.charging = s.rsv.charging ∧ t.rsv.allowance = s.rsv.allowance ∧ t.rsv.external = s.rsv.external ∧
        t.rsv.ring = pushRing 60 s.rsv.ring t.rsv.iTot ∧ t.rsv.iAvg = t.rsv.ring.sum / t.rsv.ring.length ∧
        t.rsv.tLeft =
          if t.rsv.iAvg = 0 then 5999 else min 5999 ((t.rsv.allowance - t.rsv.drawn) * 60 / t.rsv.iAvg)) ∧
    (∀ (r : RawSet) (s : State), Awake s → (s.meas.sets + 1) % 100 = 0 →
      ∃ t, exec (.sampleSet r) s = .next t ∧ t.rsv.ladder = s.rsv.ladder ∧ t.rsv.band = s.rsv.band ∧
        t.rsv.horizon = some (horizonOf s) ∧ LadderKept r s t ∧
        (s.htr.mode = .thermostat → t.rsv.stack = s.rsv.stack → ThermostatEvaluated s t)) ∧
    (∀ (r : RawSet) (s : State) (c : Consumer) (i : Channel), Awake s → (s.chan c).state = .driving →
      (s.chan c).mode = .duty ∨ (s.chan c).mode = .compensated → 0 < (s.chan c).applied → i ∈ (s.chan c).chans →
      9000 ≤ 5 * (channelGet r.current i).toNat →
      (∀ c', c' ≠ c → ∀ j ∈ (s.chan c').chans, 5 * (channelGet r.current j).toNat < 9000) →
      ∃ t, exec (.sampleSet r) s = .next t ∧ TrippedAtSet c s t) ∧
    (∀ (r : RawSet) (s : State), Awake s → s.out.ok →
      ∃ t, exec (.sampleSet r) s = .next t ∧
        ∀ c, (s.chan c).state = .driving → (s.chan c).mode = .duty → t.rsv.stack = s.rsv.stack →
          (c = .fan → s.htr.purge.map (·.next) = some .waitDemand → t.htr.state = s.htr.state) →
          (t.chan c).state = .driving → (t.chan c).mode = .duty →
          (t.chan c).applied = movedToward (s.set.slewLimit c) (s.chan c).computed (s.chan c).applied) ∧
    ∀ (r : RawSet) (s : State), Awake s →
      ∃ t, exec (.sampleSet r) s = .next t ∧
        t.out.floorHold =
          (if t.meas.vbatF < 16000 then true else if 17000 ≤ t.meas.vbatF then false else s.out.floorHold) ∧
        (holding s = false → holding t = true → HoldBegun r s t) ∧
        ((s.out.floorHold = true ∧ t.out.floorHold = true) ∨ (s.out.thermalHold = true ∧ t.out.thermalHold = true) →
          heaterFitted s = true → t.htr.state = s.htr.state → t.htr.holdSets = s.htr.holdSets + 1) ∧
        (holding s = true → holding t = false → HoldReleased s t)

/-- A start was declined (R41): OFF, or WAIT_DEMAND with a restart wait of 300 s, and the notice with its reason. -/
def Sys2Proof.Machine.Declined (reason : Nat) (value : Int) (s t : State) : Prop :=
  let st : HState := if s.htr.origin = .waitDemand then .waitDemand else .off
  HeaterEntered st s t ∧ (st = .waitDemand → t.htr.restartWait = 30000) ∧ (st = .off → t.htr.runTimer = .absent) ∧
    t = { s with htr := t.htr, out := t.out, ntq := t.ntq } ∧
    t.ntq = (posted s .heaterState (heaterNumber st) 0).post s.tmr.seconds .heaterDeclined reason value

/-- Tier 2. The third out-of-window set in a row puts a VALID sensor in FAULT, the tenth in-window set a FAULT sensor back to
VALID; each posts its notice and reaches the block that depends on the sensor: a TSX fault ends PRIME to RUN in a purge of full
length to LOCKOUT, turns a purge, and declines a start in GLOW with reason EXCHANGER; a TSF fault sets the fallback, with the
speed step chosen anew as MID, or HIGH under an open lid without the eco cap (R7, R41, R49, R55, R63, R72, R79). That
SENSOR_FAULT comes before HEATER_STATE, and HEATER_STATE before HEATER_DECLINED, is the model's choice (log 16). -/
def Obligations.SensorFaultAndRecoveryAreReported : Prop :=
  ∀ (x : Sensor) (s : State), Awake s →
    ((s.meas.sensor x).validity = .valid → 3 ≤ (s.meas.sensor x).outRun →
      ∃ t, exec (.sensorFault x) s = .next t ∧
        t.meas = s.meas.setSensor x { s.meas.sensor x with validity := .fault } ∧
        (let q := posted s .sensorFault (if (s.meas.sensor x).lastLow then 0 else 1) (sensorNumber x)
         match x with
         | .tsc => t = { s with meas := t.meas, ntq := q, htr := { s.htr with idleOff := 0 } }
         | .tsf =>
           t = { s with meas := t.meas, ntq := q, cool := t.cool } ∧ FallbackBegun s.set s.cool t.cool
         | .tsx =>
           t = { s with meas := t.meas, ntq := t.ntq, htr := t.htr, out := t.out } ∧
             (s.htr.state = .prime ∨ s.htr.state = .ignition ∨ s.htr.state = .stabilise ∨ s.htr.state = .run →
               HeaterEntered .purge s t ∧ t.htr.purge = some ⟨.lockout, some .sensor, false, false, true, 0⟩ ∧
                 t.ntq = q.post s.tmr.seconds .heaterState 7 3) ∧
             (∀ p, s.htr.state = .purge → s.htr.purge = some p → t.out = s.out ∧
               t.htr = { s.htr with purge := some { p with
                 fullLength := true, next := .lockout,
                 cause := if p.next = .lockout then p.cause else some .sensor } } ∧
               t.ntq = if p.next = .lockout then q else q.post s.tmr.seconds .heaterState 7 3) ∧
             (s.htr.state = .purge → s.htr.purge = none → t.htr = s.htr ∧ t.out = s.out ∧ t.ntq = q) ∧
             (s.htr.state = .glow →
               HeaterEntered (if s.htr.origin = .waitDemand then .waitDemand else .off) s t ∧
                 Declined 2 s.meas.tsx.reported { s with meas := t.meas, ntq := q } t) ∧
             (s.htr.state = .off ∨ s.htr.state = .check ∨ s.htr.state = .waitDemand ∨ s.htr.state = .lockout →
               t.htr = s.htr ∧ t.out = s.out ∧ t.ntq = q))) ∧
    ((s.meas.sensor x).validity = .fault → 10 ≤ (s.meas.sensor x).inRun →
      ∃ t, exec (.sensorOk x) s = .next t ∧
        t.meas = s.meas.setSensor x { s.meas.sensor x with
          validity := .valid
          reported := (s.meas.sensor x).filter.sum.tdiv (s.meas.sensor x).filter.length } ∧
        t = { s with
          meas := t.meas
          ntq := posted s .sensorOk 0 (sensorNumber x)
          cool :=
            if x = .tsf then
              { s.cool with
                fallback := false
                offLeft := if s.cool.state = .minOff then s.cool.minOff else s.cool.offLeft }
            else s.cool })

/-- The effect of a stop (Table 38). In PURGE a next of RETRY or WAIT_DEMAND turns to OFF, with the notice of R63; a next of
OFF or LOCKOUT stays, without one (R51, R52, R63). -/
def Sys2Proof.Machine.HeaterStopped (s t : State) : Prop :=
  match s.htr.state with
  | .check | .glow | .waitDemand =>
    HeaterEntered .off s t ∧ t.htr.runTimer = .absent ∧ t.ntq = posted s .heaterState 0 0
  | .prime | .ignition | .stabilise | .run =>
    HeaterEntered .purge s t ∧ t.htr.purge = some ⟨.off, none, false, false, false, 0⟩ ∧
      t.ntq = posted s .heaterState 7 0
  | .purge =>
    t.out = s.out ∧
      t.htr = { s.htr with
        purge := s.htr.purge.map fun q =>
          if q.next = .lockout ∨ q.next = .off then q else { q with next := .off, cause := none } } ∧
      t.ntq =
        match s.htr.purge with
        | some q => if q.next = .lockout ∨ q.next = .off then s.ntq else posted s .heaterState 7 0
        | none => s.ntq
  | .off | .lockout => t.htr = s.htr ∧ t.out = s.out ∧ t.ntq = s.ntq

/-- A start in THERMOSTAT mode handed to the heater by a fired entry: the checks, the result code and the effect of HEATER
START from the state `u` to the state `v` (R39, R40). That it leaves the fixed stage as held is the model's reading
(log 29). -/
def Sys2Proof.Machine.FiredStart (target : Int) (minutes : Nat) (res : Result) (u v : State) : Prop :=
  let refused (r : Result) : Prop := res = r ∧ v = u
  let started (h : Heater) : Prop :=
    h.mode = .thermostat ∧ h.target = target ∧ h.fixedStage = u.htr.fixedStage ∧ h.attempts = 2 ∧ h.restarts = 1 ∧
      h.runTimer = if minutes = 0 then .unlimited else .left (6000 * minutes)
  let checking (o : Origin) : Prop :=
    res = .ok ∧ HeaterEntered .check u v ∧ started v.htr ∧ v.htr.origin = o ∧ v.htr.startFan = u.set.startFanDuty ∧
      v.htr.glowTarget = u.set.glowTarget ∧
      v = { u with htr := v.htr, out := v.out, ntq := posted u .heaterState 1 0 }
  if u.sys.phase = .settling then refused .notReady
  else if heaterFitted u = false then refused .notFitted
  else
    match u.htr.state with
    | .lockout => refused .locked
    | .off => checking .off
    | .waitDemand => checking .waitDemand
    | .purge =>
      if (u.htr.purge.map (·.next)) = some .off then
        res = .ok ∧ started v.htr ∧ v.htr.state = .purge ∧
          v.htr.purge = u.htr.purge.map (fun q => { q with next := .retry, cause := none }) ∧
          v = { u with htr := v.htr, ntq := posted u .heaterState 7 1 }
      else refused .wrongState
    | _ => refused .wrongState

/-- A session whose linked entries would be due at these times (Table 70). -/
def Sys2Proof.Machine.linkedDue (x : Session) : Nat → Nat
  | 240 => max x.start (x.start + 60 * x.planned - 60 * x.wakeLead)
  | 241 => max x.start (x.start + 60 * x.planned - 60 * ((x.prewarm.map (·.lead)).getD 0))
  | _ => x.start + 60 * x.planned

/-- The linked entries that a session needs, and whether it has a PREWARM entry (Table 70). -/
def Sys2Proof.Machine.sessionWarms (x : Session) (s : State) : Bool := x.prewarm.isSome && heaterFitted s

/-- The number of timer entries that a session needs (Table 70). -/
def Sys2Proof.Machine.entriesNeeded (x : Session) (s : State) : Nat :=
  (if 0 < x.wakeLead then 1 else 0) + (if sessionWarms x s then 1 else 0) + 1

/-- A session began (R114, R115): its record, its linked entries, its notice, and a REST record after a STOP. -/
def Sys2Proof.Machine.SessionBegun (x : Session) (detail : Nat) (s t : State) : Prop :=
  t.ntq = posted s .restBegin detail x.planned ∧ t.duty.session = some x ∧
    t.tmr.find 242 = some ⟨242, .linked, .restEnd, some (linkedDue x 242)⟩ ∧
    (0 < x.wakeLead → t.tmr.find 240 = some ⟨240, .linked, .wake, some (linkedDue x 240)⟩) ∧
    (sessionWarms x s = true → t.tmr.find 241 = some ⟨241, .linked, .prewarm, some (linkedDue x 241)⟩) ∧
    (∀ id, id < 240 → t.tmr.find id = s.tmr.find id) ∧
    (s.duty.current.kind = .stop →
      t.duty.current = ⟨.rest, .open, s.tmr.seconds, 0⟩ ∧
        t.duty.closed = pushRing 47 s.duty.closed { s.duty.current with cause := .restBegin })

/-- The queue after WAKE has been withdrawn: its pending and its playing part leave the light, then the chime, with outcome
CANCELLED (R95, R96; the order: log 16). -/
def Sys2Proof.Machine.wakeWithdrawn (s : State) : Ntq :=
  let left (l : Light) (q : Ntq) : Ntq :=
    q.post s.tmr.seconds .alertPlayed 3 (16 * 1 + consumerNumber (lightConsumer l))
  let pending (l : Light) (q : Ntq) : Ntq := if (s.light l).queued = some .wake then left l q else q
  let playing (l : Light) (q : Ntq) : Ntq :=
    if (s.light l).playing.map (·.pattern) = some .wake then left l q else q
  playing .chime (pending .chime (playing .lower (pending .lower s.ntq)))

/-- A session ended by END REST or KEY4 (R115, R118): entries, record and WAKE are gone, it is reported, and a STOP record
follows a REST. -/
def Sys2Proof.Machine.SessionEnded (x : Session) (detail : Nat) (s t : State) : Prop :=
  let elapsed := s.tmr.seconds - x.start
  t.duty.session = none ∧ (∀ id, id = 240 ∨ id = 241 ∨ id = 242 → t.tmr.find id = none) ∧
    (∀ id, id < 240 → t.tmr.find id = s.tmr.find id) ∧ t.lgt.wakeTimer = none ∧
    (∀ l, l ≠ .upper → (t.light l).playing.map (·.pattern) ≠ some .wake ∧ (t.light l).queued ≠ some .wake) ∧
    (s.lgt.ok →
      t.ntq =
        (if elapsed < 60 * x.planned then
           (wakeWithdrawn s).post s.tmr.seconds .restShort detail (elapsed / 60 : Nat)
         else wakeWithdrawn s).post s.tmr.seconds .restEnd detail (elapsed / 60 : Nat)) ∧
    (s.duty.current.kind = .rest → ¬(s.meas.ign.level = true ∧ s.duty.effective = .moving) →
      t.duty.current = ⟨.stop, .open, s.tmr.seconds, 0⟩ ∧
        t.duty.closed = pushRing 47 s.duty.closed { s.duty.current with cause := .restEnd })

/-- R87 on one bunk light: its programs end with reason CANCELLED, and the new steady level is taken with its ramp. Under a
playing alert the level shown stands; on a lamp that is shed or under the cutoff hold the level moves without a ramp, which
is the model's reading (log 50). -/
def Sys2Proof.Machine.PanelPressed (l : Light) (level ramp : Nat) (s t : State) : Prop :=
  let r := s.light l
  let still := r.shed = true ∨ s.lgt.cutoffHold = true ∨ ramp = 0
  if fitted s (lightConsumer l) = false then t = s
  else
    t = { s with lgt := t.lgt, ntq := endsPosted l 1 ((r.active.map (·.prog)).toList ++ r.waiting) s } ∧
      OnlyLight l s t ∧
      t.light l = { r with
        active := none
        waiting := []
        steady := level
        lastNonzero := if level = 0 then r.lastNonzero else level
        ramp := if r.playing.isSome then r.ramp else if still then none else some ⟨r.present, level, ramp, 0⟩
        present := if r.playing.isSome then r.present else if still then level else r.present }

/-- The base of R87: the present level, or under an alert the steady level. -/
def Sys2Proof.Machine.panelBase (r : LightRec) : Nat := if r.playing.isSome then r.steady else r.present

/-- Tier 2. A complete debounce count turns the level of its input (R9): the ignition and the duty clock, a DRIVE record closing
with end cause IGNITION at ignition off (R104 to R107, R111), the lid and the cooling controller, whose speed step in RUNNING
becomes HIGH, or MID under the eco cap, at an opening (R72, R75), a key and its classification state (R10); a release before the
LONG or REPEAT time gives a SHORT press, which posts KEY and is handed to its owner (R11 to R13). That the lid is followed
before the map is loaded is the model's reading (log 30). -/
def Obligations.DebounceChangeTurnsTheLevel : Prop :=
  (∀ s : State, Awake s → s.meas.ign.count = 50 →
      ∃ t, exec (.debounceChange .ign) s = .next t ∧
        t.meas = { s.meas with ign := ⟨!s.meas.ign.level, 0⟩ } ∧
        t = { s with meas := t.meas, duty := t.duty, tmr := t.tmr, lgt := t.lgt, ntq := t.ntq } ∧
        t.duty.stale = 0 ∧
        (s.meas.ign.level = true →
          t.duty.reported = .stopped ∧ t.duty.effective = .stopped ∧ t.duty.hold = none ∧
            t.duty.staleFlag = false ∧ t.duty.current.kind ≠ .drive) ∧
        (s.meas.ign.level = false →
          t.duty.reported = s.duty.reported ∧ t.duty.effective = s.duty.effective ∧
            t.duty.hold = if s.duty.reported = s.duty.effective then none else some 0) ∧
        (let rests : Kind := if s.duty.session.isSome then .rest else .stop
         let began (k : Kind) (cause : EndCause) : Prop :=
           t.duty.current = ⟨k, .open, s.tmr.seconds, 0⟩ ∧
             t.duty.closed = pushRing 47 s.duty.closed { s.duty.current with cause := cause }
         let kept : Prop := t.duty.current = s.duty.current ∧ t.duty.closed = s.duty.closed
         let periodsOnly : Prop :=
           t = { s with meas := t.meas, duty := { s.duty with
             reported := t.duty.reported, effective := t.duty.effective, hold := t.duty.hold, stale := 0
             staleFlag := t.duty.staleFlag, current := t.duty.current, closed := t.duty.closed } }
         (s.meas.ign.level = true ∨ s.duty.effective = .stopped →
             periodsOnly ∧ (rests = s.duty.current.kind → kept) ∧
               (s.duty.current.kind = .drive → s.duty.session = none → began .stop .ignition) ∧
               (s.duty.current.kind = .rest → s.duty.session = none → began .stop .restEnd) ∧
               (s.duty.current.kind ≠ .rest → s.duty.session.isSome → began .rest .restBegin)) ∧
           (s.meas.ign.level = false → t.duty.staleFlag = s.duty.staleFlag) ∧
           (s.meas.ign.level = false → s.duty.effective = .moving →
             t.duty.current.kind = .drive ∧ t.duty.cd = s.duty.cd ∧ t.duty.dd = s.duty.dd ∧
               (s.duty.current.kind = .drive → kept ∧ periodsOnly) ∧
               (s.duty.current.kind ≠ .drive →
                 t.duty.session = none ∧ t.duty.sp = (s.duty.sp || s.duty.pf) ∧ t.duty.pf = false ∧ t.duty.ns = 0 ∧
                   t.duty.marks = ⟨false, false, false, false⟩ ∧ t.duty.breakGiven = false ∧
                   began .drive (if s.duty.current.kind = .rest then .interrupted else .vehicle) ∧
                   (s.duty.session = none → t = { s with meas := t.meas, duty := t.duty }))))) ∧
    (∀ s : State, Awake s → s.meas.lid.count = 10 →
      ∃ t, exec (.debounceChange .lid) s = .next t ∧
        t.meas = { s.meas with lid := ⟨!s.meas.lid.level, 0⟩ } ∧
        t = { s with meas := t.meas, cool := t.cool } ∧
        (coolingFitted s = true →
          t.cool.lidReported = false ∧ t.cool.lidSets = if s.meas.lid.level then none else some 0) ∧
        (coolingFitted s = true ∨ s.sys.loads < 10 →
          t.cool = { s.cool with
            lidReported := false
            lidSets := if s.meas.lid.level then none else some 0
            step := t.cool.step
            cspd := t.cool.cspd } ∧
            if s.meas.lid.level = false ∧ s.cool.state = .running then
              t.cool.step = (if s.cool.degraded then .mid else .high) ∧ t.cool.cspd = speedDuty s.set t.cool.step
            else t.cool.step = s.cool.step ∧ t.cool.cspd = s.cool.cspd) ∧
        (coolingFitted s = false → 10 ≤ s.sys.loads → t.cool = s.cool)) ∧
    ∀ (k : Key) (s : State), Awake s → (s.key k).deb.count = 3 →
      ∃ t, exec (.debounceChange (.key k)) s = .next t ∧
        (t.key k).deb = ⟨!(s.key k).deb.level, 0⟩ ∧ (∀ k', k' ≠ k → t.key k' = s.key k') ∧
        t.meas = { s.meas with keys := t.meas.keys } ∧
        ((s.key k).deb.level = true → (t.key k).cls = .idle) ∧
        ((s.key k).deb.level = true →
          let u := s.setKey k ⟨⟨false, 0⟩, .idle, 0, (s.key k).nextRepeat⟩
          ((s.key k).cls = .held → (s.key k).hold < (if k = .key1 ∨ k = .key2 then 800 else 2000) →
            t = handPress k .short (post .key 0 (16 * 1 + keyNumber k) u)) ∧
            ((s.key k).cls = .idle ∨ (s.key k).cls = .longGiven ∨ (s.key k).cls = .ignored ∨
                ((s.key k).cls = .repeating ∧ (s.key k).hold < (s.key k).nextRepeat) →
              t = u)) ∧
        ((s.key k).deb.level = false →
          t = { s with meas := t.meas } ∧
            if s.sys.phase = .running ∧ (s.key k).cls = .idle then (t.key k).cls = .held ∧ (t.key k).hold = 0
            else (t.key k).cls = (s.key k).cls)

/-- Tier 2. A held KEY0, KEY3 or KEY4 gives one LONG press at 2 000 ms, a held KEY1 or KEY2 a REPEAT at 800 ms and at each whole
100 ms after it; each posts KEY and is handed to the owner of Table 13 (R11 to R13). A SHORT press of KEY3 starts or stops the
heater, the panel keys set the level of a bunk light, and a LONG press of KEY4 begins or ends a rest session (R40, R87, R115).
That the fixed stage stays as held at a KEY3 start (log 29), that a dark lamp takes its level at once (log 50), and the order of
the notices at a withdrawal of WAKE (log 16) are the model's. -/
def Obligations.HeldKeysAreClassified : Prop :=
  (∀ (k : Key) (s : State), Awake s → k ≠ .key1 → k ≠ .key2 → (s.key k).cls = .held → 2000 ≤ (s.key k).hold →
      exec (.keyLongPress k) s =
        .next
          (handPress k .long
            (post .key 0 (16 * 2 + keyNumber k) (s.setKey k { s.key k with cls := .longGiven })))) ∧
    (∀ (k : Key) (s : State), Awake s → k = .key1 ∨ k = .key2 →
      (s.key k).cls = .held ∧ 800 ≤ (s.key k).hold ∨
        (s.key k).cls = .repeating ∧ (s.key k).nextRepeat ≤ (s.key k).hold →
      exec (.keyRepeat k) s =
        .next
          (handPress k .repeated
            (post .key 0 (16 * 3 + keyNumber k)
              (s.setKey k { s.key k with
                cls := .repeating
                nextRepeat := if (s.key k).cls = .held then 900 else (s.key k).nextRepeat + 100 })))) ∧
    (∀ s : State, handPress .key3 .long s = s ∧ handPress .key4 .short s = s ∧ handPress .key3 .short s = key3Press s ∧
      handPress .key4 .long s = key4Long s ∧ handPress .key0 .long s = panelKey .key0 .long s ∧
      handPress .key1 .repeated s = panelKey .key1 .repeated s) ∧
    (∀ s : State, s.sys.phase ≠ .settling →
      let t := handPress .key3 .short s
      if heaterFitted s = false ∨ s.htr.state = .lockout then t = s
      else if s.htr.state = .off ∨ s.htr.state = .waitDemand then
        FiredStart s.set.defaultTarget s.set.defaultRun .ok s t
      else HeaterStopped s t ∧ t = { s with htr := t.htr, out := t.out, ntq := t.ntq }) ∧
    (∀ s : State,
      let toggled (l : Light) : Nat := if panelBase (s.light l) = 0 then (s.light l).lastNonzero else 0
      let b := panelBase (s.light .lower)
      PanelPressed .lower (toggled .lower) 500 s (handPress .key0 .short s) ∧
        PanelPressed .upper (toggled .upper) 500 s (handPress .key0 .long s) ∧
        PanelPressed .lower (min 100 (b + 10)) 0 s (handPress .key1 .short s) ∧
        PanelPressed .lower (min 100 (b + 1)) 0 s (handPress .key1 .repeated s) ∧
        PanelPressed .lower (b - 10) 0 s (handPress .key2 .short s) ∧
        PanelPressed .lower (b - 1) 0 s (handPress .key2 .repeated s)) ∧
    ∀ s : State,
      let t := handPress .key4 .long s
      t = { s with duty := t.duty, tmr := t.tmr, lgt := t.lgt, ntq := t.ntq } ∧
        match s.duty.session with
        | some x => SessionEnded x 1 s t
        | none =>
          let x : Session := ⟨.active, .key4, s.tmr.seconds, s.set.key4Length, s.set.key4Wake, none⟩
          if s.duty.current.kind = .stop ∧ s.tmr.table.length + entriesNeeded x s ≤ 10 then
            ¬(s.meas.ign.level = true ∧ s.duty.effective = .moving) → SessionBegun x 1 s t
          else t = s

/-! ### Output stage -/

/-- The next trip of the record is the fourth of its window, and latches it (R28). -/
abbrev Sys2Proof.Machine.AtLastTrip (c : Consumer) (s : State) : Prop :=
  (s.chan c).windowStart ≠ none ∧ 3 ≤ (s.chan c).trips

/-- A start was declined at a set at which a record latched (R41, R57): the reason and the value of its notice. -/
def Sys2Proof.Machine.DeclinedAtLatch (c : Consumer) (reason : Nat) (value : Int) (s t : State) : Prop :=
  let st : HState := if s.htr.origin = .waitDemand then .waitDemand else .off
  t.htr.state = st ∧ heaterOk t ∧ (st = .waitDemand → t.htr.restartWait = 30000) ∧
    (HoldStands s t → s.cool.state ≠ .running →
      QueueIs
        (((posted s .channelFault 1 (consumerNumber c)).post s.tmr.seconds .heaterState (heaterNumber st) 0).post
          s.tmr.seconds .heaterDeclined reason value) t)

/-- What a latch at a sample set does to the heater (R57); in STABILISE to PURGE the heater goes on without the plug, under
the tests of the set. -/
def Sys2Proof.Machine.HeaterHears (r : RawSet) (c : Consumer) (s t : State) : Prop :=
  (c = .fan → s.htr.state.dosing = true ∨ s.htr.state = .purge →
      t.htr.state = .lockout ∧ t.htr.purge = none ∧ t.htr.runTimer = .absent ∧ heaterOk t ∧ PartWritten s t ∧
        t.htr.lockout =
          { s.htr.lockout with flag := true, cause := some .fan, count := satSucc 255 s.htr.lockout.count }) ∧
    (c = .fan → s.htr.state.starting = true → t.rsv.stack = s.rsv.stack → DeclinedAtLatch .fan 5 0 s t) ∧
    (c = .glow → s.htr.state.starting = true → t.rsv.stack = s.rsv.stack → DeclinedAtLatch .glow 8 0 s t) ∧
    (c = .glow → HoldStands s t → t.rsv.stack = s.rsv.stack →
      (s.htr.state = .prime ∨ s.htr.state = .ignition → ¬Overheated t → 0 < s.set.purgeMin →
        t.htr.state = .purge ∧ t.htr.purge = some ⟨.off, none, false, false, false, 0⟩ ∧ heaterOk t ∧
          (s.cool.state ≠ .running →
            QueueIs
              (((posted s .channelFault 1 1).post s.tmr.seconds .heaterState 7 0).post s.tmr.seconds
                .heaterDeclined 8 0) t)) ∧
        (s.htr.state = .stabilise ∨ s.htr.state = .run → FlameGuarded r s t) ∧
        (∀ k, s.htr.state = .purge → s.htr.purge = some k → PurgeTested r k s t))

/-- What a trip or a latch of COMPRESSOR at a sample set does to the cooling controller (R74). -/
def Sys2Proof.Machine.CoolingHears (s t : State) : Prop :=
  let quiet := HoldStands s t ∧ t.rsv.stack = s.rsv.stack ∧ Untested s
  (¬AtLastTrip .compressor s → s.cool.state = .running →
      let n := satSucc 3 (if 6000 ≤ s.cool.runSets + 1 ∧ s.cool.check = .passed then 0 else s.cool.failures)
      let q := posted s .channelFault 0 3
      t.cool.failures = n ∧ t.cool.minOff = 180000 ∧ t.cool.sinceOff = 0 ∧
        (t.chan .compressor).demands (.off, none) ∧
        if n = 3 then
          t.cool.state = .fault ∧ t.cool.fault = .noStart ∧
            (quiet →
              QueueIs ((q.post s.tmr.seconds .coolingState 4 5).post s.tmr.seconds .coolingFault 1 3) t)
        else
          t.cool.state = .minOff ∧
            t.cool.offLeft = (if s.cool.fallback then max 180000 (60000 * s.set.fallbackOff) else 180000) ∧
            (quiet → QueueIs (q.post s.tmr.seconds .coolingState 1 5) t)) ∧
    (AtLastTrip .compressor s → s.cool.state ≠ .off →
      t.cool.state = .fault ∧ t.cool.fault = .latched ∧ (t.chan .compressor).demands (.off, none) ∧
        (quiet →
          QueueIs
            (((posted s .channelFault 1 3).post s.tmr.seconds .coolingState 4 6).post s.tmr.seconds .coolingFault 2
              t.cool.failures) t)) ∧
    (AtLastTrip .compressor s → s.cool.state = .off → t.cool.state = .off ∧ t.cool.fault = s.cool.fault)

/-- What a latch of a light's channel at a sample set does to the light (R91, R100). -/
def Sys2Proof.Machine.LightHears (l : Light) (s t : State) : Prop :=
  let r := s.light l
  (t.light l).active = none ∧ (t.light l).waiting = [] ∧
    (r.active.isSome → (t.light l).playing = none → (t.light l).present = r.steady) ∧ (t.light l).steady = r.steady ∧
    (HoldStands s t → t.rsv.stack = s.rsv.stack → Untested s → s.cool.state ≠ .running →
      QueueIs
        (endsPosted l 5 ((r.active.map (·.prog)).toList ++ r.waiting)
          { s with ntq := posted s .channelFault 1 (consumerNumber (lightConsumer l)) }) t)

/-- What an overcurrent on the one record of `c` at a sample set does to its owner (R57, R74, R100). -/
def Sys2Proof.Machine.OwnerHears (r : RawSet) (c : Consumer) (s t : State) : Prop :=
  (AtLastTrip c s → HeaterHears r c s t) ∧ (c = .compressor → CoolingHears s t) ∧
    ∀ l, c = lightConsumer l → AtLastTrip c s → LightHears l s t

/-- Tier 2. A fast reading of the hit phase enters the verification of its pulse; one of 9 000 mA or more trips the record as
well, or latches it as the fourth trip of its window, which is a pump fault or declines a start (R22, R27, R28, R56, R57). An
overcurrent on one record at a sample set reaches its owner: a latched FAN is lost and locks the heater out, a latched GLOW
declines a start or ends PRIME and IGNITION in a purge, a COMPRESSOR trip is a failed run and its latch a cooling fault, and
a latched light ends its programs with reason FAULT (R57, R74, R91, R100). That CHANNEL_FAULT comes before the owner's
notices is the model's choice (log 16), and so are that the heater's tests of the set follow (log 15), that these see TSX as
it stood before a transition due at that set (log 47) and that a trip at the set at which a passed run reaches 60 s counts
from 0 (log 67); that a part write brings the working copy of block 3 up to date is its reading (log 32). -/
def Obligations.FastReadingsVerifyTheStroke : Prop :=
  (∀ (r : RawSet) (s : State) (c : Consumer) (i : Channel), Awake s → (s.chan c).state = .driving →
    (s.chan c).mode = .duty ∨ (s.chan c).mode = .compensated → 0 < (s.chan c).applied → i ∈ (s.chan c).chans →
    9000 ≤ 5 * (channelGet r.current i).toNat →
    (∀ c', c' ≠ c → ∀ j ∈ (s.chan c').chans, 5 * (channelGet r.current j).toNat < 9000) →
    ∃ t, exec (.sampleSet r) s = .next t ∧ OwnerHears r c s t) ∧
  ∀ (raw : Raw) (s : State) (k : Pulse), Awake s → s.out.stroke.pulse = some k → k.phase = .hit →
    (s.chan .pump).state = .driving → k.readings < 2 * k.hitTime →
    ∃ t, exec (.pumpFastReading raw) s = .next t ∧
      (5 * raw.toNat < 9000 →
        t = s.setStroke { s.out.stroke with
          pulse := some { k with
            readings := k.readings + 1
            peak := max k.peak (5 * raw.toNat)
            exceeded := k.exceeded || decide (k.startCurrent < 5 * raw.toNat)
            dipSeen := k.dipSeen || (k.exceeded && decide (5 * raw.toNat + k.dip ≤ k.peak)) } }) ∧
      (9000 ≤ 5 * raw.toNat →
        t.out.stroke.pulse = none ∧ (t.chan .pump).applied = 0 ∧
          ((s.chan .pump).windowStart = none ∨ (s.chan .pump).trips < 3 →
            t.chan .pump = { s.chan .pump with
                trips := if (s.chan .pump).windowStart = none then 1 else (s.chan .pump).trips + 1
                windowStart := some (((s.chan .pump).windowStart).getD s.tmr.seconds)
                computed := (t.chan .pump).computed, applied := 0, state := .tripped, retry := some 1000 } ∧
              (∀ c, c ≠ .pump → t.chan c = s.chan c) ∧
              t = { s with out := t.out, ntq := posted s .channelFault 0 2 }) ∧
          ((s.chan .pump).windowStart ≠ none → 3 ≤ (s.chan .pump).trips →
            (t.chan .pump).state = .latched ∧ (t.chan .pump).retry = none ∧
              t = { s with out := t.out, htr := t.htr, ntq := t.ntq } ∧
              let q := posted s .channelFault 1 2
              (s.htr.state.dosing = true →
                t.htr.state = .purge ∧ t.htr.purge = some ⟨.lockout, some .pump, false, false, false, 0⟩ ∧
                  heaterOk t ∧ t.ntq = q.post s.tmr.seconds .heaterState 7 3) ∧
                (s.htr.state.starting = true →
                  let st : HState := if s.htr.origin = .waitDemand then .waitDemand else .off
                  t.htr.state = st ∧ heaterOk t ∧
                    t.ntq =
                      (q.post s.tmr.seconds .heaterState (heaterNumber st) 0).post s.tmr.seconds .heaterDeclined 5 2) ∧
                (s.htr.state.dosing = false → s.htr.state.starting = false → t.htr = s.htr ∧ t.ntq = q)))

/-- R24, R25 on one record at a set, between the states before and after it: the slot value, and at a 100th set the one-second
mean and its ring. The on-time of a pulse is that of its ms in the 10 ms of the set (log 19). -/
def Sys2Proof.Machine.SlotFormed (c : Consumer) (s t : State) : Prop :=
  let r := s.chan c
  let current := (r.chans.map fun i => channelGet t.meas.onCurrent i).sum
  let onTime :=
    if r.state ≠ .driving then 0
    else
      match r.mode with
      | .off => 0
      | .duty | .compensated => r.applied * 10000 / 1000
      | .stroke => min 10000 (strokeOnTime { s with meas := { s.meas with sets := s.meas.sets + 1 } })
  let sum := r.slotSum + current * onTime / 10000
  if (s.meas.sets + 1) % 100 = 0 then
    (t.chan c).slotSum = 0 ∧ (t.chan c).secMean = sum / 100 ∧ (t.chan c).ring60 = pushRing 60 r.ring60 (sum / 100) ∧
      mean60 (t.chan c) = (t.chan c).ring60.sum / (t.chan c).ring60.length
  else (t.chan c).slotSum = sum ∧ (t.chan c).secMean = r.secMean ∧ (t.chan c).ring60 = r.ring60

/-- R29 on one record at a set without an overcurrent at which no hold begins or ends: its runs, with the applied duty in
force during the set (log 20). -/
def Sys2Proof.Machine.OpenRuns (c : Consumer) (s t : State) : Prop :=
  let r := s.chan c
  let current := (r.chans.map fun i => channelGet t.meas.onCurrent i).sum
  if c ≠ .pump ∧ (r.mode = .duty ∨ r.mode = .compensated) ∧ r.state = .driving ∧ 200 ≤ r.applied then
    if current < s.set.openThreshold c then (t.chan c).lowRun = satSucc 50 r.lowRun ∧ (t.chan c).highRun = 0
    else (t.chan c).lowRun = 0 ∧ (t.chan c).highRun = satSucc 50 r.highRun
  else (t.chan c).lowRun = 0 ∧ (t.chan c).highRun = 0

/-- The compensated duty of R20 for a target at a supply. -/
def Sys2Proof.Machine.dutyFor (vt vs : Nat) : Nat :=
  if vt < vs then (1000 * vt ^ 2 + vs ^ 2 / 2) / vs ^ 2 else 1000

/-- R20, R21 at a set: the computed duty and the saturated flag of a record that stays in COMPENSATED mode, the applied duty
that follows under the slew limit, and the hold phase of a pulse that goes on. -/
def Sys2Proof.Machine.Compensated (s t : State) : Prop :=
  (∀ c, c ≠ .pump → (s.chan c).mode = .compensated → (t.chan c).mode = .compensated → t.htr.state = s.htr.state →
      let vt := (s.chan c).demand.getD 0
      (t.chan c).computed = dutyFor vt t.meas.vbatF ∧ (t.chan c).saturated = decide (t.meas.vbatF ≤ vt) ∧
        ((s.chan c).state = .driving → (t.chan c).state = .driving →
          (t.chan c).applied = movedToward (s.set.slewLimit c) (t.chan c).computed (s.chan c).applied)) ∧
    ∀ k k', s.out.stroke.pulse = some k → k.phase = .hold → t.out.stroke.pulse = some k' →
      k' = k ∧ (t.chan .pump).computed = dutyFor k.vHold t.meas.vbatF ∧
        (t.chan .pump).saturated = decide (t.meas.vbatF ≤ k.vHold)

/-- Tier 2. A retry that is over leads to DRIVING, or to OFF with the demand OFF; a trip window closes 60 s after it opened;
the open-load flag follows 50 sets in a row and is reported (R27 to R29). Each sample set counts 10 ms of the retry wait of a
TRIPPED record and the runs of open load, forms the slot values and at every 100th set the one-second means with their 60 s
rings, and renews the compensated duty (R20, R21, R24, R25, R29). The model's own readings in it: the ms of a pulse in a set
(log 19) and the duty in force (log 20). -/
def Obligations.RetryWindowAndOpenLoadEvents : Prop :=
  (∀ (r : RawSet) (s : State), Awake s →
    ∃ t, exec (.sampleSet r) s = .next t ∧ (∀ c, SlotFormed c s t) ∧
      (s.out.ok → Compensated s t) ∧
      (∀ c, (s.chan c).state = .tripped → (t.chan c).state = .tripped →
        (t.chan c).retry = (s.chan c).retry.map (· - 10)) ∧
      (NoOvercurrent r → HoldStands s t → ∀ c, OpenRuns c s t)) ∧
  ∀ (c : Consumer) (s : State), Awake s →
    ((s.chan c).state = .tripped → (s.chan c).retry = some 0 →
      exec (.retryExpiry c) s =
        .next (s.setChan c { s.chan c with
          state := if (s.chan c).mode = .off then .off else .driving, applied := 0, retry := none })) ∧
    (∀ w, (s.chan c).windowStart = some w → w + 60 ≤ s.tmr.seconds →
      exec (.tripWindowClose c) s = .next (s.setChan c { s.chan c with trips := 0, windowStart := none })) ∧
    (c ≠ .pump → 50 ≤ (s.chan c).lowRun → (s.chan c).openLoad = false →
      exec (.openLoadSet c) s =
        .next { s.setChan c { s.chan c with openLoad := true } with ntq := posted s .openLoad 1 (consumerNumber c) }) ∧
    (c ≠ .pump → 50 ≤ (s.chan c).highRun → (s.chan c).openLoad = true →
      exec (.openLoadClear c) s =
        .next { s.setChan c { s.chan c with openLoad := false } with ntq := posted s .openLoad 0 (consumerNumber c) })

/-- Tier 2. The end of the hit phase goes to the compensated hold and judges the stroke; a third missed stroke, or a
stroke without current in IGNITION or RUN, is a pump fault; an outcome sets or clears the open-load flag of PUMP with its
notice; the end of the hold phase ends the pulse (R20 to R24, R56). That the saturated flag is judged at the start of the hold
phase too and stands after its end is the model's choice (log 37), and so is that OPEN_LOAD comes before the HEATER_STATE of a
pump fault, of a third miss too (log 16, log 65); the ms of the hit phase in the set under way are its reading (log 19). -/
def Obligations.StrokePhasesEnd : Prop :=
  (∀ (s : State) (k : Pulse), Awake s → s.out.stroke.pulse = some k → k.phase = .hit →
      k.start + k.hitTime < 10 * s.meas.sets + 10 →
      ∃ t, exec .hitPhaseEnd s = .next t ∧
        t = { s with out := t.out, ntq := t.ntq, htr := t.htr } ∧
        (let o : Outcome :=
           if ¬k.exceeded then .noCurrent else if k.lowSupply then .unverified
           else if k.dipSeen then .confirmed else .missed
         t.out.stroke.last = some o ∧
           t.out.stroke.miss =
             (match o with
              | .missed => satSucc 255 s.out.stroke.miss
              | .confirmed => 0
              | _ => s.out.stroke.miss) ∧
           t.out.stroke.fault = (s.out.stroke.fault || (o == .missed && t.out.stroke.miss == 3)) ∧
           (t.chan .pump).openLoad = decide (o = .noCurrent) ∧
           (o = .confirmed ∨ o = .unverified →
             t.htr = s.htr ∧ t.out.stroke.pulse = some { k with phase := .hold } ∧
               (t.chan .pump).applied =
                 (if k.vHold < s.meas.vbatF then
                    (1000 * k.vHold ^ 2 + s.meas.vbatF ^ 2 / 2) / s.meas.vbatF ^ 2
                  else 1000) ∧
               (t.chan .pump).saturated = decide (s.meas.vbatF ≤ k.vHold)) ∧
           (o = .missed → t.out.stroke.miss = 3 → s.out.stroke.fault = false → s.htr.state.dosing = true →
             t.htr.state = .purge ∧ t.htr.purge = some ⟨.lockout, some .pump, false, false, false, 0⟩) ∧
           (o = .noCurrent → (s.chan .pump).openLoad = false → s.htr.state = .ignition ∨ s.htr.state = .run →
             t.htr.state = .purge ∧ t.htr.purge = some ⟨.lockout, some .pump, false, false, false, 0⟩) ∧
           let third : Prop := o = .missed ∧ t.out.stroke.miss = 3 ∧ s.out.stroke.fault = false
           let lost : Prop :=
             (third ∧ s.htr.state.dosing = true) ∨
               (o = .noCurrent ∧ (s.chan .pump).openLoad = false ∧ (s.htr.state = .ignition ∨ s.htr.state = .run))
           let q :=
             if o = .noCurrent then (if (s.chan .pump).openLoad then s.ntq else posted s .openLoad 1 2)
             else if (s.chan .pump).openLoad then posted s .openLoad 0 2
             else s.ntq
           t.out = { s.out with recs := t.out.recs, stroke := t.out.stroke } ∧
             (¬lost →
               t.htr = s.htr ∧ t.ntq = q ∧ (∀ c, c ≠ .pump → t.chan c = s.chan c) ∧
                 t.chan .pump = { s.chan .pump with
                   computed := dutyFor k.vHold s.meas.vbatF, applied := dutyFor k.vHold s.meas.vbatF
                   saturated := decide (s.meas.vbatF ≤ k.vHold), openLoad := decide (o = .noCurrent) } ∧
                 t.out.stroke = { s.out.stroke with
                   pulse := some { k with phase := .hold }
                   onTime :=
                     s.out.stroke.onTime +
                       1000 * (min (10 * s.meas.sets + 10) (k.start + k.hitTime) - max (10 * s.meas.sets) k.start)
                   last := some o, miss := t.out.stroke.miss, fault := t.out.stroke.fault }) ∧
             (lost →
               heaterOk t ∧ t.htr.stateSets = 0 ∧ t.ntq = q.post s.tmr.seconds .heaterState 7 3 ∧
                 (∀ c, c ≠ .pump →
                   t.chan c =
                     if c = .fan ∨ c = .glow then
                       { s.chan c with
                         mode := (t.chan c).mode, demand := (t.chan c).demand, computed := (t.chan c).computed
                         applied := (t.chan c).applied, saturated := (t.chan c).saturated
                         state := (t.chan c).state }
                     else s.chan c) ∧
                 t.chan .pump = { s.chan .pump with
                   mode := .off, demand := none, computed := 0, applied := 0, saturated := false
                   state := if (s.chan .pump).state = .driving then .off else (s.chan .pump).state
                   openLoad := decide (o = .noCurrent) } ∧
                 t.out.stroke = { s.out.stroke with
                   pulse := none, onTime := 0, last := some o, miss := t.out.stroke.miss
                   fault := t.out.stroke.fault }))) ∧
    ∀ (s : State) (k : Pulse), Awake s → s.out.stroke.pulse = some k → k.phase = .hold →
      k.start + k.hitTime + k.holdTime < 10 * s.meas.sets + 10 →
      ∃ t, exec .holdPhaseEnd s = .next t ∧ t = { s with out := t.out } ∧
        t.out = { s.out with recs := t.out.recs, stroke := t.out.stroke } ∧
        t.out.stroke = { s.out.stroke with pulse := none, onTime := t.out.stroke.onTime } ∧
        t.out.recs = s.out.recs.set .pump { s.chan .pump with computed := 0, applied := 0 }

/-- The demand that the owner of a consumer writes when its record has been cleared (R35, R57, R74, R100). -/
def Sys2Proof.Machine.ownerDemand (s : State) : Consumer → Mode × Option Nat
  | .fan => heaterDemand s.htr .fan
  | .glow => heaterDemand s.htr .glow
  | .pump => heaterDemand s.htr .pump
  | .compressor => if s.cool.state = .running then (.duty, some 1000) else (.off, none)
  | .bunkLower => levelDemand (s.light .lower).applied
  | .bunkUpper => levelDemand (s.light .upper).applied
  | .chime => levelDemand (s.light .chime).applied

/-- Tier 2. CLEAR CHANNEL FAULT takes a LATCHED record out of its latch, to HELD under a hold, with its trips and window gone
and its owner's demand written again; any other record stays as it is (R35). That a wrong length is refused before the three
checks of R35 is the model's choice (log 75). -/
def Obligations.ClearChannelFaultLeavesTheLatch : Prop :=
  ∀ (ctr : Byte) (p : List Byte) (s : State), LinkFree s →
    ∃ t, exec (.clearChannelFault ctr p) s = .next t ∧
      if p.length ≠ 1 then Refused .clearChannelFault ctr p .badLength s t
      else
        match consumerOf (u8At p 0) with
        | none => Refused .clearChannelFault ctr p .badField s t
        | some c =>
          if (s.chan c).chans = [] then Refused .clearChannelFault ctr p .notFitted s t
          else if s.sys.phase = .settling then Refused .clearChannelFault ctr p .notReady s t
          else if (s.chan c).state ≠ .latched then RepliedOnly .clearChannelFault ctr p .ok [] s t
          else
            Replied .clearChannelFault ctr p .ok [] s t ∧
              t = { s with out := t.out, ntq := posted s .channelClear 0 (consumerNumber c), lnk := t.lnk, free := t.free } ∧
              t.out = { s.out with recs := t.out.recs, stroke := t.out.stroke } ∧
              (c ≠ .pump → t.out.stroke = s.out.stroke) ∧
              t.chan c = { s.chan c with
                mode := (ownerDemand s c).1, demand := (ownerDemand s c).2
                computed := (t.chan c).computed, applied := (t.chan c).applied, saturated := (t.chan c).saturated
                trips := 0, windowStart := none
                state :=
                  if s.out.floorHold ∨ s.out.thermalHold then .held
                  else if (ownerDemand s c).1 = .off then .off
                  else .driving } ∧
              ∀ c', c' ≠ c → t.chan c' = s.chan c'

/-- Tier 1. The status requests return the pictures of their blocks and change nothing; all but STATUS and STORE STATUS wait
for the end of settling (R14, R33, R63, R81, R101, R122, R132, R153, R164, R165, R178). The pictures of the blocks are the
model's payload functions: where R161 can be read in more than one way their fields and widths are the model's reading (logs
11, 12, 41), a field without a subject is sent as 0 by its choice (logs 48, 51, 53), the horizon shown before the first
accounting second is its choice (log 61), and so are the effective setpoint shown before the next test of the controller (log
69) and the flags of a light or compressor that is not fitted (log 70); a value that does not fit or a byte not used is free
(logs 9, 10). -/
def Obligations.StatusRequestsChangeNothing : Prop :=
  ∀ (ctr : Byte) (p : List Byte) (s : State), LinkFree s →
    let always (r : Request) (payload : List Byte) (t : State) : Prop :=
      if p.length ≠ 0 then Refused r ctr p .badLength s t else RepliedOnly r ctr p .ok payload s t
    let settled (r : Request) (payload : List Byte) (t : State) : Prop :=
      if p.length ≠ 0 then Refused r ctr p .badLength s t
      else if s.sys.phase = .settling then Refused r ctr p .notReady s t
      else RepliedOnly r ctr p .ok payload s t
    let f := s.free
    let m := s.meas
    (∃ t, exec (.status ctr p) s = .next t ∧
        always .status
          ([(match s.sys.cause with | .powerOn => 0 | .pin => 1 | .reinitialise => 2 : Byte), 0x60, 0x02, 0x01,
            if s.lnk.fast then 1 else 0] ++
            natBytes 2 s.lnk.checksum ++ natBytes 2 s.lnk.gap ++ natBytes 2 s.lnk.length ++ natBytes 2 s.lnk.overrun)
          t) ∧
      (∃ t, exec (.readMeasurements ctr p) s = .next t ∧
        settled .readMeasurements
          (encU f 2 m.vbatF ++ encI f 2 m.tsc.reported ++ encI f 2 m.cabMean ++ encI f 2 m.tsx.reported ++
            encI f 2 m.tsf.reported ++ encI f 2 m.dieReported ++
            encBitByte [m.tsc.validity == .valid, m.tsx.validity == .valid, m.tsf.validity == .valid] ++
            encBitByte
              [m.ign.level, m.lid.level, m.keys.key0.deb.level, m.keys.key1.deb.level, m.keys.key2.deb.level,
               m.keys.key3.deb.level, m.keys.key4.deb.level] ++
            allConsumers.flatMap fun c => encU f 2 (s.chan c).secMean) t) ∧
      (∃ t, exec (.channelStatus ctr p) s = .next t ∧ settled .channelStatus (channelPayload s) t) ∧
      (∃ t, exec (.heaterStatus ctr p) s = .next t ∧ settled .heaterStatus (heaterPayload s) t) ∧
      (∃ t, exec (.coolingStatus ctr p) s = .next t ∧ settled .coolingStatus (coolingPayload s) t) ∧
      (∃ t, exec (.lightStatus ctr p) s = .next t ∧ settled .lightStatus (lightPayload s) t) ∧
      (∃ t, exec (.dutyStatus ctr p) s = .next t ∧ settled .dutyStatus (dutyPayload s) t) ∧
      (∃ t, exec (.reserveStatus ctr p) s = .next t ∧ settled .reserveStatus (reservePayload s) t) ∧
      (∃ t, exec (.listTimers ctr p) s = .next t ∧
        settled .listTimers (natBytes 1 s.tmr.table.length ++ s.tmr.table.flatMap (entryBytes f)) t) ∧
      ∃ t, exec (.storeStatus ctr p) s = .next t ∧ always .storeStatus (storePayload s.sto) t

/-! ### Heater sequencer -/

/-- Tier 2. HEATER START, checked in the order of R39: from OFF and WAIT_DEMAND it enters CHECK with the clamped arguments,
two attempts and one restart; a purge that ends in OFF goes on to RETRY; LOCKOUT refuses it, any other state too. -/
def Obligations.HeaterStartFollowsTheState : Prop :=
  ∀ (ctr : Byte) (p : List Byte) (s : State), LinkFree s →
    ∃ t, exec (.heaterStart ctr p) s = .next t ∧
      let refused (r : Result) : Prop := Refused .heaterStart ctr p r s t
      let target := max 50 (min 300 (i16At p 0))
      let minutes := if u16At p 2 = 0 then 0 else max 10 (min 720 (u16At p 2))
      let stage := max 1 (min 4 (u8At p 5))
      let res : Result :=
        if target = i16At p 0 ∧ minutes = u16At p 2 ∧ stage = u8At p 5 then .ok else .okClamped
      let started (h : Heater) : Prop :=
        h.mode = (if u8At p 4 = 1 then .fixed else .thermostat) ∧ h.target = target ∧ h.fixedStage = stage ∧
          h.attempts = 2 ∧ h.restarts = 1 ∧ h.runTimer = if minutes = 0 then .unlimited else .left (6000 * minutes)
      if p.length ≠ 6 then refused .badLength
      else if 1 < u8At p 4 then refused .badField
      else if s.sys.phase = .settling then refused .notReady
      else if heaterFitted s = false then refused .notFitted
      else
        match s.htr.state with
        | .lockout => refused .locked
        | .off =>
          Replied .heaterStart ctr p res [] s t ∧ HeaterEntered .check s t ∧ started t.htr ∧ t.htr.origin = .off ∧
            t.htr.startFan = s.set.startFanDuty ∧ t.htr.glowTarget = s.set.glowTarget ∧
            t = { s with
              htr := t.htr, out := t.out, ntq := posted s .heaterState 1 0, lnk := t.lnk, free := t.free }
        | .waitDemand =>
          Replied .heaterStart ctr p res [] s t ∧ HeaterEntered .check s t ∧ started t.htr ∧
            t.htr.origin = .waitDemand ∧ t.htr.startFan = s.set.startFanDuty ∧ t.htr.glowTarget = s.set.glowTarget ∧
            t = { s with
              htr := t.htr, out := t.out, ntq := posted s .heaterState 1 0, lnk := t.lnk, free := t.free }
        | .purge =>
          if (s.htr.purge.map (·.next)) = some .off then
            Replied .heaterStart ctr p res [] s t ∧ started t.htr ∧ t.htr.state = .purge ∧
              t.htr.purge = s.htr.purge.map (fun q => { q with next := .retry, cause := none }) ∧
              t = { s with htr := t.htr, ntq := posted s .heaterState 7 1, lnk := t.lnk, free := t.free }
          else refused .wrongState
        | _ => refused .wrongState

/-- R38 at a sample set, between the states before and after it: the time of the state counts, from 0 at its entry, and with
it the stage time while the stage stays. -/
def Sys2Proof.Machine.StateTimeCounted (s t : State) : Prop :=
  t.htr.stateSets = (if t.htr.state = s.htr.state then s.htr.stateSets + 1 else 0) ∧
    (s.htr.state = .stabilise ∨ s.htr.state = .run → t.htr.state = s.htr.state → t.htr.stage = s.htr.stage →
      t.htr.stageSets = s.htr.stageSets + 1)

/-- Tier 2. Each sample set counts the time of every state, CHECK and GLOW among them (R38). After 2 s of CHECK the
conditions of Table 33 are tested in order; the first that fails declines the start, otherwise GLOW is entered (R41). That
HEATER_STATE comes before HEATER_DECLINED is the model's choice (log 16). -/
def Obligations.CheckEndStartsOrDeclines : Prop :=
  (∀ (r : RawSet) (s : State), Awake s → ∃ t, exec (.sampleSet r) s = .next t ∧ StateTimeCounted s t) ∧
  ∀ s : State, Awake s → s.htr.state = .check → 200 ≤ s.htr.stateSets →
    ∃ t, exec .checkEnd s = .next t ∧
      if s.rsv.band ≠ .normal ∨ s.meas.vbatF < s.set.startSupply then Declined 1 0 s t
      else if s.meas.tsx.validity ≠ .valid ∨ 1000 ≤ s.meas.tsx.reported then Declined 2 s.meas.tsx.reported s t
      else if s.htr.mode = .thermostat ∧ s.meas.tsc.validity ≠ .valid then Declined 3 0 s t
      else if s.rsv.allowance - s.rsv.drawn < s.set.startReserve ∨ stepApplied s.rsv .heater .shed then
        Declined 4 0 s t
      else if (s.chan .fan).state = .latched then Declined 5 0 s t
      else if (s.chan .glow).state = .latched then Declined 5 1 s t
      else if (s.chan .pump).state = .latched then Declined 5 2 s t
      else if (s.chan .fan).openLoad then Declined 6 0 s t
      else if glowInWindow s = false then Declined 7 (min 32767 (glowResistance s)) s t
      else
        HeaterEntered .glow s t ∧ t.htr.stateLen = s.set.glowTime ∧
          t = { s with htr := t.htr, out := t.out, ntq := posted s .heaterState 2 0 }

/-- PURGE was entered with its record (R52). -/
def Sys2Proof.Machine.Purging (next : Next) (cause : Option Cause) (burnOff : Bool) (s t : State) : Prop :=
  HeaterEntered .purge s t ∧ t.htr.purge = some ⟨next, cause, burnOff, false, false, 0⟩ ∧
    t.htr.purgeFan = s.set.purgeFanDuty ∧ t = { s with htr := t.htr, out := t.out, ntq := t.ntq }

/-- R42 at a sample set, between the states before and after it: from PRIME to RUN the exchanger second under way keeps its
maximum of the reported TSX value, which enters the exchanger peak ring with the 100th set; otherwise all three stand. -/
def Sys2Proof.Machine.ExchangerCounted (s t : State) : Prop :=
  if s.htr.state.dosing = true then
    let m : Int :=
      match s.htr.secMax with
      | some x => max x t.meas.tsx.reported
      | none => t.meas.tsx.reported
    if 99 ≤ s.htr.secSets then
      t.htr.peakRing = pushRing 120 s.htr.peakRing m ∧ t.htr.secMax = none ∧ t.htr.secSets = 0
    else t.htr.peakRing = s.htr.peakRing ∧ t.htr.secMax = some m ∧ t.htr.secSets = s.htr.secSets + 1
  else t.htr.peakRing = s.htr.peakRing ∧ t.htr.secMax = s.htr.secMax ∧ t.htr.secSets = s.htr.secSets

/-- Tier 2. From PRIME on each sample set counts the exchanger seconds, whose maxima enter the peak ring that R54 reads. GLOW
ends in PRIME, which takes T_ref and starts the strokes; 15 s of PRIME end in IGNITION, or with the open-load flag of PUMP
set in a purge to LOCKOUT; an ignition window that runs out costs an attempt and ends in a burn-off purge, to RETRY while
attempts remain and to LOCKOUT with cause NO_FLAME otherwise. At a sample set in IGNITION flame leads to STABILISE with its
stage, in either order against an expiry of that set, and a trip that is no latch leaves the heater in its state (R42, R43,
R46, R55 to R57). That the overheat test follows the flame test at a set is the model's choice (log 15), and so is the use of
TSX and TSC as they stood before a transition due at that set (log 47). -/
def Obligations.StartPhasesFollowOneAnother : Prop :=
  (∀ (r : RawSet) (s : State), Awake s → ∃ t, exec (.sampleSet r) s = .next t ∧ ExchangerCounted s t) ∧
  (∀ (r : RawSet) (s : State), Awake s → s.htr.state = .ignition →
    ∃ t, exec (.sampleSet r) s = .next t ∧ (CalmSet s t → IgnitionTested r s t)) ∧
  ∀ s : State, Awake s →
    (s.htr.state = .glow → 100 * s.htr.stateLen ≤ s.htr.stateSets →
      ∃ t, exec .glowEnd s = .next t ∧ HeaterEntered .prime s t ∧ t.htr.tRef = s.meas.tsx.reported ∧
        t.htr.peff = s.set.startPower ∧ t.htr.ramp = none ∧ t.htr.peakRing = [] ∧
        t.htr.secMax = none ∧ t.htr.secSets = 0 ∧
        t.htr.nextStroke = some (10 * s.meas.sets) ∧ t.htr.lastPeriod = none ∧ t.htr.attempts = s.htr.attempts ∧
        t = { s with htr := t.htr, out := t.out, ntq := posted s .heaterState 3 0 }) ∧
    (s.htr.state = .prime → 1500 ≤ s.htr.stateSets →
      ∃ t, exec .primeEnd s = .next t ∧
        if (s.chan .pump).openLoad then
          Purging .lockout (some .pump) false s t ∧
            t.ntq = (posted s .heaterState 4 0).post s.tmr.seconds .heaterState 7 3
        else
          HeaterEntered .ignition s t ∧ t.htr.stateLen = s.set.ignitionWindow ∧ t.htr.tRef = s.htr.tRef ∧
            t.htr.attempts = s.htr.attempts ∧ t.htr.nextStroke = s.htr.nextStroke ∧
            t = { s with htr := t.htr, out := t.out, ntq := posted s .heaterState 4 0 }) ∧
    (s.htr.state = .ignition → 100 * s.htr.stateLen ≤ s.htr.stateSets →
      ∃ t, exec .ignitionWindowExpiry s = .next t ∧ t.htr.attempts = s.htr.attempts - 1 ∧
        if 1 < s.htr.attempts then Purging .retry none true s t ∧ t.ntq = posted s .heaterState 7 1
        else Purging .lockout (some .noFlame) true s t ∧ t.ntq = posted s .heaterState 7 3) ∧
    (s.htr.state ≠ .ignition → exec .ignitionWindowExpiry s = .next s)

/-- Tier 2. When a stroke falls due, the next due time lies a pump period later, the period being that of the effective
power within its bounds; with FAN DRIVING the trigger starts a pulse, or counts an overlap (R21, R44). -/
def Obligations.StrokeDueSetsTheNextStroke : Prop :=
  ∀ (s : State) (n : Nat), Awake s → s.htr.state.dosing = true → s.htr.nextStroke = some n →
    n < 10 * s.meas.sets + 10 →
    ∃ t, exec .strokeDue s = .next t ∧
      (let w := s.set
       let lo := w.tHit + w.tHold + 50
       let raw := (w.strokeVolume * w.fuelEnergy * 36 + s.htr.peff * 5000) / (s.htr.peff * 10000)
       let period := if raw < lo then lo else if 5000 < raw then 5000 else raw
       t.htr = { s.htr with nextStroke := some (n + period), lastPeriod := some period } ∧
         t = { s with htr := t.htr, out := t.out } ∧
         if (s.chan .fan).state = .driving ∧ (s.chan .pump).state = .driving ∧ (s.chan .pump).mode = .stroke then
           match s.out.stroke.pulse with
           | some _ =>
             t.out = { s.out with
               stroke := { s.out.stroke with overlaps := satSucc 255 s.out.stroke.overlaps } }
           | none =>
             t.out = { s.out with
               recs := s.out.recs.set .pump { s.chan .pump with computed := 1000, applied := 1000 }
               stroke := { s.out.stroke with
                 pulse := some
                   { start := n, hitTime := w.tHit, holdTime := w.tHold, vHold := w.vHold,
                     startCurrent := w.startCurrent, dip := w.dip, phase := .hit, readings := 0, peak := 0,
                     exceeded := false, dipSeen := false, lowSupply := decide (s.meas.vbatF < 20000) } } }
         else t.out = s.out)

/-- R45, R47, R49, R51 at a sample set, between the states before and after it: the run timer and the restart wait count
down, the RUN time up and goes with RUN; P_eff follows its ramp, which goes on while state and stage stay; an evaluation of
the thermostat counts toward idle-off, and nothing else at a set does in RUN. -/
def Sys2Proof.Machine.RunTimesCounted (s t : State) : Prop :=
  let h := s.htr
  let rests := t.htr.state = .off ∨ t.htr.state = .lockout
  let on (m : PeffRamp) : PeffRamp := { m with elapsed := min 20000 (m.elapsed + 10) }
  let power (m : PeffRamp) : Nat := ((m.old : Int) + (((m.new : Int) - m.old) * m.elapsed).tdiv 20000).toNat
  t.htr.runTimer =
      (if rests ∧ t.htr.state ≠ h.state then .absent
       else
         match h.runTimer with
         | .left n => .left (n - 1)
         | x => x) ∧
    (h.state = .waitDemand → t.htr.state = .waitDemand → t.htr.restartWait = h.restartWait - 1) ∧
    (h.state = .run → t.htr.runSets = if t.htr.state = .run then h.runSets + 1 else 0) ∧
    (h.state.dosing = true → t.htr.state.dosing = true →
      t.htr.peff =
        (match h.ramp with
         | some m => power (on m)
         | none => h.peff) ∧
        (t.htr.state = h.state → t.htr.stage = h.stage → t.htr.ramp = h.ramp.map on)) ∧
    (h.state = .run → t.htr.state = .run → t.rsv.stack = s.rsv.stack →
      t.htr.idleOff =
        if (s.meas.sets + 1) % 100 = 0 ∧ h.mode = .thermostat then
          (if t.meas.tsc.validity = .valid ∧ h.stage = 1 ∧ t.htr.target - t.meas.cabMean ≤ -15 then
             satSucc 300 h.idleOff
           else 0)
        else h.idleOff)

/-- Tier 2. Each sample set moves P_eff along its ramp and counts the run timer, the restart wait, the RUN time and, at an
evaluation, the idle-off time. A ramp of P_eff ends at its new power after 20 s; the glow plug goes off after 30 s of
STABILISE; after 60 s RUN is entered, with the counts of R47 and a part write, capped to stage 1 under DEGRADE, or a purge to
LOCKOUT with the open-load flag of PUMP set. Ten minutes of RUN clear the count of consecutive lockouts; the idle-off time
ends RUN in a purge to WAIT_DEMAND; in FIXED mode the end of the restart wait starts again from CHECK (R45 to R47, R49, R51,
R56, R59). That an evaluation counts toward idle-off with the stage of before its own change is the model's reading (log 29),
and that the idle-off count stands in mode FIXED its choice (log 76). That a start counts as restarted exactly when its
origin is RETRY is the model's reading (log 26, DEDUCED), and so are the stage of STABILISE kept into RUN after a HEATER SET
(log 40) and the working copy of block 3 at a part write (log 32); that the cap comes before that purge, which so shows stage
1, is its choice (log 73). At a sample set in STABILISE or RUN the flame-out test, and in PRIME to RUN the overheat test, end
the state in their purge, and a trip that is no latch does not (R54, R55, R57); that the flame-out test comes first is the
model's choice (log 15), and so is the use of TSX and TSC as they stood before a transition due at that set (log 47). -/
def Obligations.StabiliseAndRunFollowTheirTimes : Prop :=
  (∀ (r : RawSet) (s : State), Awake s → ∃ t, exec (.sampleSet r) s = .next t ∧ RunTimesCounted s t) ∧
  (∀ (r : RawSet) (s : State), Awake s → s.htr.state = .prime ∨ s.htr.state = .stabilise ∨ s.htr.state = .run →
    ∃ t, exec (.sampleSet r) s = .next t ∧ (CalmSet s t → FlameGuarded r s t)) ∧
  ∀ s : State, Awake s →
    (∀ r, s.htr.ramp = some r → 20000 ≤ r.elapsed →
      exec .peffRampEnd s = .next { s with htr := { s.htr with peff := r.new, ramp := none } }) ∧
    (s.htr.state = .stabilise → 3000 ≤ s.htr.stateSets → s.htr.glowOff = false →
      ∃ t, exec .stabiliseGlowOff s = .next t ∧ t = { s with htr := { s.htr with glowOff := true }, out := t.out } ∧
        (t.chan .glow).demands (.off, none) ∧ OnlyDemanded [.glow] s t) ∧
    (s.htr.state = .stabilise → 6000 ≤ s.htr.stateSets →
      ∃ t, exec .stabiliseEnd s = .next t ∧
        t = { s with htr := t.htr, out := t.out, ntq := t.ntq, sto := t.sto } ∧ PartWritten s t ∧
        t.htr.lockout =
          { s.htr.lockout with
            starts := satSucc 65535 s.htr.lockout.starts
            restarted :=
              if s.htr.origin = .retry then satSucc 65535 s.htr.lockout.restarted else s.htr.lockout.restarted } ∧
        if (s.chan .pump).openLoad then
          HeaterEntered .purge s t ∧ t.htr.purge = some ⟨.lockout, some .pump, false, false, false, 0⟩ ∧
            t.ntq = (posted s .heaterState 6 0).post s.tmr.seconds .heaterState 7 3 ∧
            t.htr.stage = if stepApplied s.rsv .heater .degrade ∧ 1 < s.htr.stage then 1 else s.htr.stage
        else
          HeaterEntered .run s t ∧ t.htr.runSets = 0 ∧ t.htr.flame = true ∧
            t.ntq = posted s .heaterState 6 0 ∧
            t.htr.stage = if stepApplied s.rsv .heater .degrade ∧ 1 < s.htr.stage then 1 else s.htr.stage) ∧
    (s.htr.state = .run → 60000 ≤ s.htr.runSets → 0 < s.htr.lockout.count →
      ∃ t, exec .runTenMinutes s = .next t ∧
        t.htr = { s.htr with lockout := { s.htr.lockout with count := 0 } } ∧ PartWritten s t ∧
        t = { s with htr := t.htr, sto := t.sto }) ∧
    (s.htr.state = .run → s.htr.mode = .thermostat → 300 ≤ s.htr.idleOff →
      ∃ t, exec .idleOff s = .next t ∧ Purging .waitDemand none false s t ∧
        t.ntq = posted s .heaterState 7 2 ∧ t.htr.runTimer = s.htr.runTimer) ∧
    (s.htr.state = .waitDemand → s.htr.mode = .fixed → s.htr.restartWait = 0 → s.htr.timeLeft = true →
      ∃ t, exec .restartWaitExpiry s = .next t ∧ HeaterEntered .check s t ∧ t.htr.origin = .waitDemand ∧
        t.htr.runTimer = s.htr.runTimer ∧
        t = { s with htr := t.htr, out := t.out, ntq := posted s .heaterState 1 0 })

/-- Tier 2. A run timer that has run out and HEATER STOP have the effect of Table 38, with HEATER_STATE at an entry and at a
change of a purge's next, and with no notice where the next stays OFF or LOCKOUT (R51, R52, R63). -/
def Obligations.StopsFollowTheTable : Prop :=
  (∀ s : State, Awake s → s.htr.runTimer = .left 0 →
      ∃ t, exec .runTimerExpiry s = .next t ∧ HeaterStopped s t ∧
        t = { s with htr := t.htr, out := t.out, ntq := t.ntq }) ∧
    ∀ (ctr : Byte) (p : List Byte) (s : State), LinkFree s →
      ∃ t, exec (.heaterStop ctr p) s = .next t ∧
        if p.length ≠ 0 then Refused .heaterStop ctr p .badLength s t
        else if s.sys.phase = .settling then Refused .heaterStop ctr p .notReady s t
        else if heaterFitted s = false then Refused .heaterStop ctr p .notFitted s t
        else
          Replied .heaterStop ctr p .ok [] s t ∧ HeaterStopped s t ∧
            t = { s with htr := t.htr, out := t.out, ntq := t.ntq, lnk := t.lnk, free := t.free }

/-- LOCKOUT was entered with a cause (R61): HEATER_STATE is posted, the alert requested, and HEATER_LOCKOUT posted, in this
order by the model's choice (log 16). -/
def Sys2Proof.Machine.LockedOut (cause : Option Cause) (s t : State) : Prop :=
  HeaterEntered .lockout s t ∧ t.htr.purge = none ∧ t.htr.runTimer = .absent ∧ PartWritten s t ∧
    t.htr.lockout =
      { s.htr.lockout with flag := true, cause := cause, count := satSucc 255 s.htr.lockout.count } ∧
    t = { s with htr := t.htr, out := t.out, lgt := t.lgt, sto := t.sto, ntq := t.ntq } ∧
    let alerted :=
      requestAlert .heaterLockout
        { s with htr := t.htr, out := t.out, sto := t.sto, ntq := posted s .heaterState 9 (causeCode cause) }
    t.lgt = alerted.lgt ∧ t.ntq = posted alerted .heaterLockout (causeCode cause).toNat t.htr.lockout.count

/-- Tier 2. The burn-off of a purge ends after 30 s of purge time; each sample set tests a purge against its maximum, which
ends it in LOCKOUT, with cause PURGE_HOT unless it is of full length, and not without the test of a set; a hold of 60 s ends a
suspended purge in LOCKOUT (R38, R53, R58, R61). At a sample set the end test lets the purge go to its next, and an overheat
turns its next to LOCKOUT; a trip that is no latch does neither (R53, R55, R57). The order of the notices at LOCKOUT entry is
the model's choice (log 16), and so is that the end test comes before the overheat test (log 15) and that both see TSX as it
stood before a transition due at that set (log 47); that a part write brings the working copy of block 3 up to date (log 32)
and that the result of the maximum test is kept for PURGE_MAXIMUM (log 57) are its readings. -/
def Obligations.PurgeLimitsEndThePurge : Prop :=
  (∀ (r : RawSet) (s : State) (k : Purge), Awake s → s.htr.state = .purge → s.htr.purge = some k →
    ∃ t, exec (.sampleSet r) s = .next t ∧ (CalmSet s t → PurgeTested r k s t)) ∧
  (∀ (r : RawSet) (s : State), Awake s →
    ∃ t, exec (.sampleSet r) s = .next t ∧
      (t.htr.purgeMaxed = true ↔
        ∃ k, t.htr.purge = some k ∧ k.suspended = false ∧ 100 * t.set.purgeMax ≤ k.sets)) ∧
  ∀ (s : State) (k : Purge), Awake s → s.htr.purge = some k →
    (k.burnOff = true → 3000 ≤ k.sets → s.htr.glowOff = false → s.htr.state = .purge →
      ∃ t, exec .purgeBurnOffEnd s = .next t ∧ t = { s with htr := { s.htr with glowOff := true }, out := t.out } ∧
        (t.chan .glow).demands (.off, none) ∧ OnlyDemanded [.glow] s t) ∧
    (k.suspended = false → s.htr.purgeMaxed = true →
      ∃ t, exec .purgeMaximum s = .next t ∧
        LockedOut (if k.fullLength then k.cause else some .purgeHot) s t) ∧
    (k.suspended = true ∨ s.htr.purgeMaxed = false → exec .purgeMaximum s = .next s) ∧
    (k.suspended = true → 6000 ≤ s.htr.holdSets →
      ∃ t, exec .holdTimeLimit s = .next t ∧
        LockedOut (if k.next = .lockout then k.cause else some s.htr.heldBy) s t)

/-- HEATER SET with mode FIXED in RUN, with the record `h` that holds the stored values (R45, R49, R50, R59): the fixed
stage, capped to 1 by DEGRADE, becomes the stage with a ramp to its power and its fan duty demanded, and a stage other than 1
sets the idle-off count to 0; where it does not differ nothing more changes. That the stage time restarts is the model's
choice (log 66), and that the idle-off count stands in mode FIXED (log 76). -/
def Sys2Proof.Machine.FixedStageTaken (h : Heater) (s t : State) : Prop :=
  let n := if stepApplied s.rsv .heater .degrade then 1 else h.fixedStage
  t.ntq = s.ntq ∧
    if n = s.htr.stage then t.htr = h ∧ t.out = s.out
    else
      t.htr = { h with
        stage := n
        stageSets := 0
        ramp := some ⟨s.htr.peff, s.set.stagePower n, 0⟩
        stageFan := s.set.stageFanDuty n
        idleOff := if n = 1 then s.htr.idleOff else 0 } ∧
      (t.chan .fan).demands (.duty, some (s.set.stageFanDuty n)) ∧ OnlyDemanded [.fan] s t

/-- Tier 2. HEATER SET takes a new target, mode and stage in an active heater, a start at once in WAIT_DEMAND, and in RUN a
fixed stage at once, with a ramp and the fan duty of the new stage if it differs; CLEAR HEATER LOCKOUT leaves LOCKOUT for OFF
with the count kept (R45, R49, R50, R59, R62). That the stage time restarts with the new stage is the model's choice (log
66), and that the idle-off count stands at stage 1 in mode FIXED (log 76); that the part write of CLEAR HEATER LOCKOUT brings
the working copy of block 3 up to date is its reading (log 32). -/
def Obligations.HeaterSetAndClearLockout : Prop :=
  (∀ (ctr : Byte) (p : List Byte) (s : State), LinkFree s →
      ∃ t, exec (.heaterSet ctr p) s = .next t ∧
        let target := max 50 (min 300 (i16At p 0))
        let stage := max 1 (min 4 (u8At p 3))
        let mode : HMode := if u8At p 2 = 1 then .fixed else .thermostat
        if p.length ≠ 4 then Refused .heaterSet ctr p .badLength s t
        else if 1 < u8At p 2 then Refused .heaterSet ctr p .badField s t
        else if s.sys.phase = .settling then Refused .heaterSet ctr p .notReady s t
        else if heaterFitted s = false then Refused .heaterSet ctr p .notFitted s t
        else if s.htr.state = .off ∨ s.htr.state = .lockout then Refused .heaterSet ctr p .wrongState s t
        else
          Replied .heaterSet ctr p (if target = i16At p 0 ∧ stage = u8At p 3 then .ok else .okClamped) [] s t ∧
            t = { s with htr := t.htr, out := t.out, ntq := t.ntq, lnk := t.lnk, free := t.free } ∧
            t.htr.target = target ∧ t.htr.mode = mode ∧ t.htr.fixedStage = stage ∧
            t.htr.runTimer = s.htr.runTimer ∧ t.htr.attempts = s.htr.attempts ∧
            (s.htr.state = .run → mode = .fixed →
              FixedStageTaken { s.htr with target := target, mode := mode, fixedStage := stage } s t) ∧
            (s.htr.state = .waitDemand → mode = .fixed →
              HeaterEntered .check s t ∧ t.htr.origin = .waitDemand ∧ t.ntq = posted s .heaterState 1 0) ∧
            (mode = .thermostat ∨ (s.htr.state ≠ .run ∧ s.htr.state ≠ .waitDemand) →
              t.htr = { s.htr with target := target, mode := mode, fixedStage := stage } ∧ t.out = s.out ∧
                t.ntq = s.ntq)) ∧
    ∀ (ctr : Byte) (p : List Byte) (s : State), LinkFree s →
      ∃ t, exec (.clearHeaterLockout ctr p) s = .next t ∧
        if p.length ≠ 0 then Refused .clearHeaterLockout ctr p .badLength s t
        else if s.sys.phase = .settling then Refused .clearHeaterLockout ctr p .notReady s t
        else if s.htr.state ≠ .lockout then Refused .clearHeaterLockout ctr p .wrongState s t
        else
          Replied .clearHeaterLockout ctr p .ok [] s t ∧ HeaterEntered .off s t ∧ PartWritten s t ∧
            t.htr.lockout = { s.htr.lockout with flag := false, cause := none } ∧
            t = { s with
              htr := t.htr, out := t.out, sto := t.sto, ntq := posted s .heaterState 0 0, lnk := t.lnk,
              free := t.free }

/-! ### Cooling controller -/

/-- COMPRESSOR is demanded OFF, a switch-off if it was DRIVING, and the run's fields are gone (R67, R68). -/
def Sys2Proof.Machine.CoolingStopped (st : CState) (s t : State) : Prop :=
  t.cool.state = st ∧ (t.chan .compressor).demands (.off, none) ∧ OnlyDemanded [.compressor] s t ∧
    t.cool.minOff = (if (s.chan .compressor).state = .driving then 180000 else s.cool.minOff) ∧
    t.cool.sinceOff = (if (s.chan .compressor).state = .driving then 0 else s.cool.sinceOff) ∧
    t.cool.step = .none ∧ t.cool.cspd = 0 ∧ t.cool.runSets = 0 ∧ t.cool.check = .none ∧ t.cool.stopPending = false ∧
    t = { s with cool := t.cool, out := t.out, ntq := t.ntq } ∧
    t.cool.on = s.cool.on ∧ t.cool.setpoint = s.cool.setpoint ∧ t.cool.lidSets = s.cool.lidSets ∧
    t.cool.degraded = s.cool.degraded ∧ t.cool.shed = s.cool.shed ∧ t.cool.fallback = s.cool.fallback ∧
    t.cool.held = s.cool.held

/-- MIN_OFF was entered with a reason: the off time left is the minimum-off left, in fallback the longer of it and the
fallback off time (R70, R79, R80). -/
def Sys2Proof.Machine.MinOffEntered (reason : Int) (s t : State) : Prop :=
  CoolingStopped .minOff s t ∧
    t.cool.offLeft =
      (if s.cool.fallback then max t.cool.minOff (60000 * s.set.fallbackOff) else t.cool.minOff) ∧
    t.ntq = posted s .coolingState 1 reason

/-- Every admission condition of a cut-in stands (R70). -/
def Sys2Proof.Machine.CutInAdmitted (s : State) : Prop :=
  coolingFitted s = true ∧ s.cool.minOff = 0 ∧ s.cool.shed = false ∧ s.cool.held = false ∧
    s.out.floorHold = false ∧ s.out.thermalHold = false ∧ stepApplied s.rsv .compressor .shed = false ∧
    s.rsv.band ≠ .critical ∧ s.rsv.band ≠ .cutoff ∧ (s.chan .compressor).state ≠ .latched

/-- R71, R73 at a sample set in RUNNING, between the states before and after it: the RUNNING time, the start check, and the
cut-out. -/
def Sys2Proof.Machine.RunTested (s t : State) : Prop :=
  let check : StartCheck :=
    if s.cool.check = .pending ∧ (s.meas.sets + 1) % 100 = 0 ∧ 300 ≤ (t.chan .compressor).secMean then .passed
    else s.cool.check
  (t.cool.state = .running → t.cool.runSets = s.cool.runSets + 1 ∧ t.cool.check = check) ∧
    (CalmSet s t → ((t.chan .compressor).state = .tripped → (s.chan .compressor).state = .tripped) →
      if t.meas.tsf.validity = .valid ∧ s.cool.fallback = false ∧ s.cool.stopPending = false ∧
          6000 ≤ s.cool.runSets + 1 ∧ t.meas.tsf.reported ≤ effectiveSetpoint t - t.set.hysteresis / 2 then
        t.cool.state = .minOff ∧ (t.chan .compressor).demands (.off, none) ∧
          t.cool.minOff = (if (s.chan .compressor).state = .driving then 180000 else s.cool.minOff - 10) ∧
          t.cool.offLeft = t.cool.minOff ∧ t.cool.step = .none ∧ t.cool.cspd = 0 ∧ t.cool.runSets = 0 ∧
          t.cool.check = .none ∧ t.cool.failures = (if check = .passed then 0 else s.cool.failures) ∧
          (Untested s → (∀ c, (t.chan c).state = .tripped → (s.chan c).state = .tripped) →
            QueueIs (posted s .coolingState 1 2) t)
      else t.cool.state = .running)

/-- R68, R70 at a sample set, between the states before and after it: the minimum-off left counts 10 ms down and the time
since switch-off 10 ms up in every cooling state, and both restart at a switch-off, that is where COMPRESSOR was DRIVING and
is not any more; the off time left counts down in MIN_OFF, and an entry of MIN_OFF from RUNNING sets it. A HELD record that
is demanded is one of no run, since RUNNING ends at a hold; there one of the two holds. -/
def Sys2Proof.Machine.OffTimesCounted (s t : State) : Prop :=
  let counted : Prop :=
    t.cool.minOff = s.cool.minOff - 10 ∧ t.cool.sinceOff = min 1800000 (s.cool.sinceOff + 10)
  let switchedOff : Prop := t.cool.minOff = 180000 ∧ t.cool.sinceOff = 0
  let r := s.chan .compressor
  (s.out.ok →
      if r.state = .driving then (if (t.chan .compressor).state = .driving then counted else switchedOff)
      else if r.state = .held ∧ r.mode ≠ .off then counted ∨ switchedOff
      else counted) ∧
    (s.cool.state = .minOff → t.cool.state = .minOff → t.cool.offLeft = s.cool.offLeft - 10) ∧
    (s.cool.state = .running → t.cool.state = .minOff →
      t.cool.offLeft =
        if t.cool.fallback then max t.cool.minOff (60000 * t.set.fallbackOff) else t.cool.minOff) ∧
    (coolingOk s → s.cool.state ≠ .minOff → t.cool.state = s.cool.state → t.cool.offLeft = s.cool.offLeft)

/-- Tier 2. The compressor's runs: each sample set counts the minimum-off left and the off time left down and the time since
switch-off up; MIN_OFF ends in WAITING; each sample set makes the cut-in test in WAITING and in the MIN_OFF that ends at it,
and a cut-in whose test held starts a run, with the speed step of the rules and its CSPD duty, while every admission
condition stands; a one-second mean of 300 mA passes its start check, and after 60 s the first set at or below the cut-out
temperature ends it in MIN_OFF; a start check that fails ends it in MIN_OFF, the third time in FAULT; at 60 s a passed check
clears the failures and a pending shed stop ends the run; in fallback the run ends after the fallback on time (R68, R70 to
R73, R77, R79). That COOLING_STATE comes before COOLING_FAULT is the model's choice (log 16), that the cut-in and the cut-out
test see the validity and reported value of TSF before a transition due at that same set its choice too (log 47), that the
start check takes the mean of the set and comes before the cut-out test (log 15), and that the fallback on time is tested at
FALLBACK_ON_END (log 64) as well; that the result of the cut-in test is kept for CUT_IN (log 46) and that 6 000 sets are the
60 s and a pending shed stop leaves the run to RUNNING_SIXTY_SECONDS (log 23) are its readings. -/
def Obligations.CompressorRunsBeginAndEnd : Prop :=
  (∀ (r : RawSet) (s : State), Awake s → ∃ t, exec (.sampleSet r) s = .next t ∧ OffTimesCounted s t) ∧
  (∀ (r : RawSet) (s : State), Awake s → s.cool.state = .running →
    ∃ t, exec (.sampleSet r) s = .next t ∧ RunTested s t) ∧
  (∀ (r : RawSet) (s : State), Awake s →
    ∃ t, exec (.sampleSet r) s = .next t ∧
      (t.cool.cutIn = true ↔
        (t.cool.state = .waiting ∨ (t.cool.state = .minOff ∧ t.cool.offLeft = 0)) ∧
          (t.cool.fallback = true ∨
            (t.meas.tsf.validity = .valid ∧ effectiveSetpoint t + t.set.hysteresis / 2 ≤ t.meas.tsf.reported)) ∧
          CutInAdmitted t)) ∧
  ∀ s : State, Awake s →
    (s.cool.state = .minOff → s.cool.offLeft = 0 →
      ∃ t, exec .minOffEnd s = .next t ∧ CoolingStopped .waiting s t ∧ t.cool.offLeft = 0 ∧
        t.cool.cutIn = s.cool.cutIn ∧
        t.ntq = posted s .coolingState 2 3) ∧
    (s.cool.state = .waiting → s.cool.cutIn = true → CutInAdmitted s →
      ∃ t, exec .cutIn s = .next t ∧ t.cool.state = .running ∧ t.cool.runSets = 0 ∧ t.cool.stepSets = 0 ∧
        t.cool.check = .pending ∧ t.cool.stopPending = false ∧ t.cool.minOff = 0 ∧
        t.cool.step = speedChosen s ∧ t.cool.cspd = speedDuty s.set (speedChosen s) ∧
        t.cool = { s.cool with
          state := .running, runSets := 0, stepSets := 0, check := .pending, sixty := false, cutIn := false
          stopPending := false, step := t.cool.step, cspd := t.cool.cspd } ∧
        (t.chan .compressor).demands (.duty, some 1000) ∧ (t.chan .compressor).computed = 1000 ∧
        OnlyDemanded [.compressor] s t ∧
        t = { s with cool := t.cool, out := t.out, ntq := posted s .coolingState 3 1 }) ∧
    (s.cool.state ≠ .waiting ∨ s.cool.cutIn = false ∨ ¬CutInAdmitted s → exec .cutIn s = .next s) ∧
    (s.cool.state = .running → s.cool.check = .pending → 1000 ≤ s.cool.runSets →
      ∃ t, exec .startCheckFail s = .next t ∧
        if s.cool.failures < 2 then MinOffEntered 4 s t ∧ t.cool.failures = s.cool.failures + 1
        else if s.cool.failures = 2 then
          CoolingStopped .fault s t ∧ t.cool.failures = 3 ∧ t.cool.fault = .noStart ∧
            t.ntq = (posted s .coolingState 4 4).post s.tmr.seconds .coolingFault 1 3
        else t.cool.state ≠ .running) ∧
    (s.cool.state = .running → 6000 ≤ s.cool.runSets → s.cool.sixty = false →
      ∃ t, exec .runningSixtySeconds s = .next t ∧
        if s.cool.stopPending then
          MinOffEntered 8 s t ∧ t.cool.failures = if s.cool.check = .passed then 0 else s.cool.failures
        else
          t = { s with cool := { s.cool with
            sixty := true, failures := if s.cool.check = .passed then 0 else s.cool.failures } }) ∧
    (s.cool.state = .running → s.cool.fallback = true → 6000 * s.set.fallbackOn ≤ s.cool.runSets →
      ∃ t, exec .fallbackOnEnd s = .next t ∧ MinOffEntered 10 s t)

/-- R72, R75 at a sample set, between the states before and after it: the step time counts in RUNNING, and the step stays but
for a ladder step and a lid found open at the first set; the lid timer counts while the lid is open, from 0 at the first set
for a lid that is open there. -/
def Sys2Proof.Machine.StepTimesCounted (s t : State) : Prop :=
  let opened := s.meas.sets = 0 ∧ t.meas.lid.level = true ∧ (coolingFitted s = true ∨ s.sys.loads < 10)
  (s.cool.state = .running → t.cool.state = .running →
      t.cool.stepSets = s.cool.stepSets + 1 ∧
        (t.rsv.stack = s.rsv.stack → ¬opened → t.cool.step = s.cool.step ∧ t.cool.cspd = s.cool.cspd)) ∧
    (s.cool.state = .running → t.cool.state ≠ .running →
      t.cool.stepSets = 0 ∧ t.cool.step = .none ∧ t.cool.cspd = 0) ∧
    if opened then t.cool.lidSets = some 0 ∧ t.cool.lidReported = false
    else t.cool.lidSets = s.cool.lidSets.map (satSucc 6553500) ∧ t.cool.lidReported = s.cool.lidReported

/-- Tier 2. Each sample set counts the step time in RUNNING and the lid timer. In RUNNING the speed step is chosen anew every
30 s from the excess over the effective setpoint, with HIGH under an open lid and at most MID under the eco cap, and CSPD
takes its duty; a lid open for 120 s is reported once (R72, R75). That the lid is followed before the map is loaded is the
model's reading (log 30). -/
def Obligations.SpeedStepAndLidEvents : Prop :=
  (∀ (r : RawSet) (s : State), Awake s → ∃ t, exec (.sampleSet r) s = .next t ∧ StepTimesCounted s t) ∧
  ∀ s : State, Awake s →
    (s.cool.state = .running → 3000 ≤ s.cool.stepSets →
      ∃ t, exec .speedStepChoice s = .next t ∧ t = { s with cool := t.cool } ∧
        (let x := s.meas.tsf.reported - effectiveSetpoint s
         let base : Speed :=
           if s.cool.lidSets.isSome then .high
           else if s.cool.fallback then .mid
           else if 40 ≤ x then .high
           else if 20 ≤ x then .mid
           else .low
         let step : Speed := if s.cool.degraded ∧ base = .high then .mid else base
         t.cool = { s.cool with
           step := step
           stepSets := 0
           cspd :=
             match step with
             | .none => 0
             | .low => s.set.speedLow
             | .mid => s.set.speedMid
             | .high => s.set.speedHigh })) ∧
    ∀ n, coolingFitted s = true → s.cool.lidSets = some n → 12000 ≤ n → s.cool.lidReported = false →
      exec .lidOpen120 s =
        .next { s with cool := { s.cool with lidReported := true }, ntq := posted s .lidOpen 0 120 }

/-- An on flag and a setpoint were given to the cooling controller (R67 to R70, R73, R79, R80). With on, OFF and FAULT are
left for WAITING, or with a minimum-off left for MIN_OFF with that off time; with off every other state ends in OFF. A run
that ends is a switch-off if COMPRESSOR was DRIVING, and its step, CSPD and run fields are gone; FAULT is left with its count
and cause cleared. That the fallback off time holds at this entry of MIN_OFF too is the model's reading (log 22), and so is
an off time left of 0 in the other states (log 11) and that a cut-in test of before is gone (log 46); that a run with a
passed check that ends at its 60 s clears the count is its choice (log 67). -/
def Sys2Proof.Machine.CoolingTurned (on : Bool) (setpoint : Int) (s t : State) : Prop :=
  let kept : Cooling := { s.cool with on := on, setpoint := setpoint }
  let minOff := if (s.chan .compressor).state = .driving then 180000 else s.cool.minOff
  let ended : Cooling :=
    { kept with
      step := .none, cspd := 0, stepSets := 0, runSets := 0, check := .none, sixty := false, cutIn := false
      stopPending := false
      minOff := minOff
      sinceOff := if (s.chan .compressor).state = .driving then 0 else s.cool.sinceOff
      failures :=
        if s.cool.state = .fault ∨ (s.cool.state = .running ∧ 6000 ≤ s.cool.runSets ∧ s.cool.check = .passed) then 0
        else s.cool.failures
      fault := if s.cool.state = .fault then .none else s.cool.fault }
  let entered (st : CState) (left number : Nat) : Prop :=
    (t.chan .compressor).demands (.off, none) ∧ OnlyDemanded [.compressor] s t ∧
      t.cool = { ended with state := st, offLeft := left } ∧ t.ntq = posted s .coolingState number 0
  if on = true ∧ (s.cool.state = .off ∨ s.cool.state = .fault) then
    if s.cool.minOff = 0 then entered .waiting 0 2
    else entered .minOff (if s.cool.fallback then max minOff (60000 * s.set.fallbackOff) else minOff) 1
  else if on = false ∧ s.cool.state ≠ .off then entered .off 0 0
  else t.cool = kept ∧ t.out = s.out ∧ t.ntq = s.ntq

/-- Tier 2. COOLING SET stores the on flag and the clamped setpoint; with on, OFF and FAULT are left for MIN_OFF with the off
time left of the rules, or for WAITING with no minimum-off left, FAULT with its count and cause cleared; with off every other
state ends in OFF, and a run with its step, CSPD and run fields gone (R67 to R70, R73, R79, R80). The off time left of an
entry in fallback is the model's reading (log 22), and so are its 0 outside MIN_OFF (log 11) and that a cut-in test of before
is gone (log 46); that a run with a passed check that ends at its 60 s clears the count is its choice (log 67). -/
def Obligations.CoolingSetMovesTheState : Prop :=
  ∀ (ctr : Byte) (p : List Byte) (s : State), LinkFree s →
    ∃ t, exec (.coolingSet ctr p) s = .next t ∧
      let setpoint := max (-180) (min 100 (i16At p 1))
      let on := u8At p 0 == 1
      if p.length ≠ 3 then Refused .coolingSet ctr p .badLength s t
      else if 1 < u8At p 0 then Refused .coolingSet ctr p .badField s t
      else if s.sys.phase = .settling then Refused .coolingSet ctr p .notReady s t
      else if coolingFitted s = false then Refused .coolingSet ctr p .notFitted s t
      else
        Replied .coolingSet ctr p (if setpoint = i16At p 1 then .ok else .okClamped) [] s t ∧
          t = { s with cool := t.cool, out := t.out, ntq := t.ntq, lnk := t.lnk, free := t.free } ∧
          CoolingTurned on setpoint s t

/-! ### Light unit -/

/-- The level that SET LIGHT and LOAD PROGRAM store: CHIME is off or at 100, a bunk light at most at 100. -/
def Sys2Proof.Machine.levelTaken (l : Light) (level : Nat) : Nat :=
  match l with
  | .chime => if level = 0 then 0 else 100
  | .lower | .upper => min 100 level

/-- R84, R85, R90, R93 on one light at a set, between the states before and after it: the present level of its source, the
timings of that source, the applied level, and the demand, written when the applied level has changed. -/
def Sys2Proof.Machine.LevelFormed (l : Light) (s t : State) : Prop :=
  let r := s.light l
  let r' := t.light l
  r' = { lightCounted l r with applied := r'.applied } ∧
    r'.applied = levelShown l t ∧
    (t.chan (lightConsumer l)).demands
      (if r'.applied = r.applied then ((s.chan (lightConsumer l)).mode, (s.chan (lightConsumer l)).demand)
       else if r'.applied = 0 then (.off, none)
       else (.duty, some ((r'.applied * r'.applied + 5) / 10)))

/-- Tier 2. SET LIGHT stores the clamped level, a nonzero one as the last nonzero level too, and with source STEADY ramps to
it from the present level. At each sample set the present level of each light follows its source, the applied level the
present level, and the demand an applied level that has changed, as long as no latch of its channel, ladder step or alert of
the heater meets the light at that set (R84 to R86, R90, R93, R97). That the levels are formed last in the set is the model's
choice (log 15). -/
def Obligations.SetLightStoresTheLevel : Prop :=
  (∀ (r : RawSet) (s : State), Awake s →
    ∃ t, exec (.sampleSet r) s = .next t ∧
      (t.rsv.stack = s.rsv.stack → (t.htr.state = .lockout → s.htr.state = .lockout) →
        ∀ l, ((t.chan (lightConsumer l)).state = .latched → (s.chan (lightConsumer l)).state = .latched) →
          LevelFormed l s t)) ∧
  ∀ (ctr : Byte) (p : List Byte) (s : State), LinkFree s →
    ∃ t, exec (.setLight ctr p) s = .next t ∧
      if p.length ≠ 4 then Refused .setLight ctr p .badLength s t
      else
        match lightOf (u8At p 0) with
        | none => Refused .setLight ctr p .badField s t
        | some l =>
          let level := levelTaken l (u8At p 1)
          let ramp := if l = .chime then 0 else min 60000 (u16At p 2)
          let r := s.light l
          if s.sys.phase = .settling then Refused .setLight ctr p .notReady s t
          else if fitted s (lightConsumer l) = false then Refused .setLight ctr p .notFitted s t
          else
            Replied .setLight ctr p
                (if level = u8At p 1 ∧ ramp = u16At p 2 ∧ ¬(l ≠ .chime ∧ r.degraded ∧ 30 < level) then .ok
                 else .okClamped) [] s t ∧
              t = { s with lgt := t.lgt, lnk := t.lnk, free := t.free } ∧ OnlyLight l s t ∧
              t.light l =
                { r with
                  steady := level
                  lastNonzero := if level = 0 then r.lastNonzero else level
                  ramp :=
                    if r.playing.isSome ∨ r.active.isSome then r.ramp
                    else if ramp = 0 then none
                    else some ⟨r.present, level, ramp, 0⟩
                  present :=
                    if r.playing.isSome ∨ r.active.isSome then r.present else if ramp = 0 then level else r.present }

/-- Tier 2. LOAD PROGRAM is refused in the order of R88; accepted, with OK_CLAMPED where a number was brought to its range or
stands above the cap of a degraded light, it starts the program on a free light or lets it wait, with replace ending the
programs before it with reason REPLACED; a step begins from the present level, with its ramp or at once in its hold; CANCEL
PROGRAM ends what its selector matches with reason CANCELLED, and what waits first starts in the place of an ended active
program; each end is reported, the active program's first (R85, R88 to R92). -/
def Obligations.ProgramsAreLoadedAndCancelled : Prop :=
  (∀ (ctr : Byte) (p : List Byte) (s : State), LinkFree s →
      ∃ t, exec (.loadProgram ctr p) s = .next t ∧
        if p.length < 7 ∨ 40 < p.length ∨ (p.length - 4) % 3 ≠ 0 then Refused .loadProgram ctr p .badLength s t
        else
          match lightOf (u8At p 0) with
          | none => Refused .loadProgram ctr p .badField s t
          | some l =>
            let r := s.light l
            let q : Program :=
              { tag := u8At p 2
                runs := min 15 (u8At p 3)
                steps := (List.range ((p.length - 4) / 3)).map fun k =>
                  { level := levelTaken l (u8At p (4 + 3 * k))
                    ramp := if l = .chime then 0 else 50 * min 200 (u8At p (5 + 3 * k))
                    hold := 250 * min 240 (u8At p (6 + 3 * k)) } }
            let waits := u8At p 1 = 0 ∧ (r.active.isSome ∨ r.playing.isSome) ∨ r.playing.isSome
            let place := if waits then (if u8At p 1 = 0 then r.waiting.length else 0) + 1 else 0
            let clamped : Bool :=
              decide (15 < u8At p 3) ||
                (List.range ((p.length - 4) / 3)).any fun k =>
                  let level := u8At p (4 + 3 * k)
                  let ramp := u8At p (5 + 3 * k)
                  decide
                    (levelTaken l level ≠ level ∨ 200 < ramp ∨ (l = .chime ∧ ramp ≠ 0) ∨ 240 < u8At p (6 + 3 * k) ∨
                      (l ≠ .chime ∧ r.degraded = true ∧ 30 < level))
            if 1 < u8At p 1 then Refused .loadProgram ctr p .badField s t
            else if s.sys.phase = .settling then Refused .loadProgram ctr p .notReady s t
            else if fitted s (lightConsumer l) = false then Refused .loadProgram ctr p .notFitted s t
            else if r.shed ∨ (s.chan (lightConsumer l)).state = .latched ∨ s.lgt.cutoffHold then
              Refused .loadProgram ctr p .wrongState s t
            else if u8At p 1 = 0 ∧ 2 ≤ r.waiting.length then Refused .loadProgram ctr p .noRoom s t
            else
              Replied .loadProgram ctr p (if clamped then .okClamped else .ok) [BitVec.ofNat 8 place] s t ∧
                t = { s with lgt := t.lgt, ntq := t.ntq, lnk := t.lnk, free := t.free } ∧ OnlyLight l s t ∧
                t.ntq =
                  (if u8At p 1 = 0 then s.ntq else endsPosted l 2 ((r.active.map (·.prog)).toList ++ r.waiting) s) ∧
                (let kept := if u8At p 1 = 0 then r.waiting else []
                 if waits then
                   t.light l = { r with waiting := kept ++ [q], active := if u8At p 1 = 0 then r.active else none }
                 else
                   ∃ st, q.steps[0]? = some st ∧
                     t.light l = stepBegun { r with waiting := kept, active := none } q 1 1 st)) ∧
    ∀ (ctr : Byte) (p : List Byte) (s : State), LinkFree s →
      ∃ t, exec (.cancelProgram ctr p) s = .next t ∧
        if p.length ≠ 3 then Refused .cancelProgram ctr p .badLength s t
        else
          match lightOf (u8At p 0) with
          | none => Refused .cancelProgram ctr p .badField s t
          | some l =>
            let r := s.light l
            let picks (q : Program) : Bool := u8At p 1 == 1 || q.tag == u8At p 2
            let running := (r.active.map (·.prog)).toList
            if 1 < u8At p 1 then Refused .cancelProgram ctr p .badField s t
            else if s.sys.phase = .settling then Refused .cancelProgram ctr p .notReady s t
            else if fitted s (lightConsumer l) = false then Refused .cancelProgram ctr p .notFitted s t
            else
              Replied .cancelProgram ctr p .ok
                  [BitVec.ofNat 8 (((running ++ r.waiting).filter picks).length)] s t ∧
                t = { s with lgt := t.lgt, ntq := t.ntq, lnk := t.lnk, free := t.free } ∧ OnlyLight l s t ∧
                t.ntq = endsPosted l 1 ((running ++ r.waiting).filter picks) s ∧
                (match (running.filter picks), (r.waiting.filter fun q => !picks q) with
                 | [], kept => t.light l = { r with waiting := kept }
                 | _ :: _, q :: rest => StepBegan q 1 1 { r with waiting := rest, active := none } (t.light l)
                 | _ :: _, [] =>
                   t.light l = { r with waiting := [], active := none, ramp := none, present := r.steady })

/-- Tier 2. A ramp that has run its time leaves the level at its target; a program step that has been held leads to the next
step, the next run, or the end of the program: the first waiting program, or the final level as the steady level. A step
begins from the present level, with its ramp or, with ramp time 0, at its level in its hold (R84, R85, R90, R91). That the
applied level and its demand follow in the end event itself is the model's reading (log 25). -/
def Obligations.LightRampsAndStepsEnd : Prop :=
  (∀ (l : Light) (s : State) (m : Ramp), Awake s → (s.light l).playing = none → (s.light l).active = none →
      (s.light l).ramp = some m → m.time ≤ m.sets / 2 * 20 →
      ∃ t, exec (.lightRampEnd l) s = .next t ∧ t = { s with lgt := t.lgt, out := t.out } ∧ OnlyLight l s t ∧
        Shown l s t ∧
        t.light l = { s.light l with ramp := none, present := m.target, applied := (t.light l).applied }) ∧
    (∀ (l : Light) (s : State) (a : Active) (m : Ramp), Awake s → (s.light l).playing = none →
      (s.light l).active = some a → a.phase = .ramp m → m.time ≤ m.sets / 2 * 20 →
      ∃ t, exec (.lightRampEnd l) s = .next t ∧ t = { s with lgt := t.lgt, out := t.out } ∧ OnlyLight l s t ∧
        Shown l s t ∧
        t.light l =
          { s.light l with
            active := some { a with phase := .hold 0 }, present := m.target, applied := (t.light l).applied }) ∧
    (∀ (l : Light) (s : State) (k : Part) (m : Ramp), Awake s → (s.light l).playing = some k → k.ramp = some m →
      m.time ≤ m.sets / 2 * 20 →
      ∃ t, exec (.lightRampEnd l) s = .next t ∧ t = { s with lgt := t.lgt, out := t.out } ∧ OnlyLight l s t ∧
        Shown l s t ∧
        t.light l =
          { s.light l with
            playing := some { k with ramp := none }, present := m.target, applied := (t.light l).applied }) ∧
    ∀ (l : Light) (s : State) (a : Active) (n : Nat) (st : PStep), Awake s → (s.light l).playing = none →
      (s.light l).active = some a → a.phase = .hold n → a.prog.steps[a.step - 1]? = some st → st.hold ≤ 10 * n →
      1 ≤ a.age →
      ∃ t, exec (.programStepEnd l) s = .next t ∧ t = { s with lgt := t.lgt, out := t.out, ntq := t.ntq } ∧
        OnlyLight l s t ∧ Shown l s t ∧
        let r : LightRec := { s.light l with applied := (t.light l).applied }
        let ended := posted s .programEnd 0 (256 * (consumerNumber (lightConsumer l) : Int) + a.prog.tag)
        if a.step < a.prog.steps.length then StepBegan a.prog a.run (a.step + 1) r (t.light l) ∧ t.ntq = s.ntq
        else if a.prog.runs = 0 ∨ a.run < a.prog.runs then
          StepBegan a.prog (a.run + 1) 1 r (t.light l) ∧ t.ntq = s.ntq
        else
          t.ntq = ended ∧
            match r.waiting with
            | q :: rest => StepBegan q 1 1 { r with waiting := rest, active := none } (t.light l)
            | [] =>
              t.light l = { r with
                active := none, steady := r.present
                lastNonzero := if r.present = 0 then r.lastNonzero else r.present }

/-- Tier 2. A part that has played out is reported COMPLETED and leaves its place to the pending part, the first waiting
program, whose first step begins from the present level, or the steady level; the wake chime timer counts 10 ms down at each
sample set; a requested alert has its parts of Table 57 placed by the checks of R94, and so has the chime part of WAKE at the
end of the wake chime timer (R85, R90, R93 to R96). The light part of WAKE ends at a sample set: with its ramp under way, the
chime-done flag clear, or the flag set by an alert between two sets, it plays on, and each sample set finds the flag as it
stands; which events come between two sets is the model's choice (log 72). That the applied level and its demand follow in
the end event itself is the model's reading (log 25); that the CHIME part of HEATER_LOCKOUT is placed first, and the order of
the notices at a part that starts in place of another, is its choice (log 16). -/
def Obligations.AlertPartsEndAndWakeSounds : Prop :=
  (∀ (l : Light) (s : State) (k : Part), Awake s → (s.light l).playing = some k →
      (¬(k.pattern = .wake ∧ l = .lower) → partTime k.pattern l ≤ 10 * k.sets) →
      (k.pattern = .wake ∧ l = .lower → k.ramp = none ∧ s.lgt.chimeDone = true ∧ s.lgt.chimeFresh = false) →
      ∃ t, exec (.alertPartEnd l) s = .next t ∧ t = { s with lgt := t.lgt, out := t.out, ntq := t.ntq } ∧
        (∀ l', l' ≠ l → t.light l' = s.light l') ∧ Shown l s t ∧
        (match (s.light l).queued with
         | some q =>
           (t.light l).playing.map (·.pattern) = some q ∧ (t.light l).queued = none ∧
             t.light l =
               { partStarted q l s.lgt.wakeRamp (s.light l) with queued := none, applied := (t.light l).applied }
         | none =>
           let r : LightRec := { s.light l with playing := none, applied := (t.light l).applied }
           match r.waiting with
           | q :: rest => StepBegan q 1 1 { r with waiting := rest } (t.light l)
           | [] =>
             let stays := k.pattern = .wake ∧ l = .lower
             let steady := if stays then 60 else r.steady
             t.light l = { r with
               ramp := none, steady := steady, present := steady
               lastNonzero := if stays then 60 else r.lastNonzero }) ∧
        t.lgt = { s.lgt with
          recs := t.lgt.recs, chimeDone := s.lgt.chimeDone || decide (k.pattern = .wake ∧ l = .chime) } ∧
        ((s.light l).queued = none ∨ (s.light l).active = none →
          t.ntq = posted s .alertPlayed 0
            (16 * (patternNumber k.pattern : Int) + consumerNumber (lightConsumer l)))) ∧
    (∀ (s : State) (k : Part), (s.light .lower).playing = some k → k.pattern = .wake →
      k.ramp ≠ none ∨ s.lgt.chimeDone = false ∨ s.lgt.chimeFresh = true →
      exec (.alertPartEnd .lower) s = .next s) ∧
    (∀ (r : RawSet) (s : State), Awake s →
      ∃ t, exec (.sampleSet r) s = .next t ∧ t.lgt.chimeFresh = false ∧
        t.lgt.wakeTimer = s.lgt.wakeTimer.map (· - 10)) ∧
    (∀ (pat : Pattern) (s : State), pat ≠ .wake →
      AlertRequested pat s (requestAlert pat s) ∧ AlertBetween pat s (requestBetween pat s)) ∧
    ∀ s : State, Awake s → s.lgt.wakeTimer = some 0 →
      ∃ t, exec .wakeChimeTimerExpiry s = .next t ∧ t = { s with lgt := t.lgt, ntq := t.ntq } ∧
        t.lgt.wakeTimer = none ∧ (∀ l, l ≠ .chime → t.light l = s.light l) ∧
        let played (outcome : Nat) : Ntq := posted s .alertPlayed outcome (16 * 1 + 6)
        if s.set.infoEnabled = false then t.ntq = played 4 ∧ t.lgt.chimeDone = true
        else if fitted s .chime = false ∨ s.lgt.cutoffHold = true then t.ntq = played 5 ∧ t.lgt.chimeDone = true
        else if (s.light .chime).playing = none then
          (t.light .chime).playing = some ⟨.wake, 0, none⟩ ∧ (t.light .chime).active = none ∧
            (t.light .chime).present = 100 ∧ t.lgt.chimeDone = s.lgt.chimeDone ∧
            t.ntq = endsPosted .chime 3 ((s.light .chime).active.map (·.prog)).toList s
        else
          (t.light .chime).playing = (s.light .chime).playing ∧ (t.light .chime).active = (s.light .chime).active ∧
            match (s.light .chime).queued with
            | none =>
              (t.light .chime).queued = some .wake ∧ t.ntq = s.ntq ∧ t.lgt.chimeDone = s.lgt.chimeDone
            | some q =>
              if alertRank q ≤ alertRank .wake then
                (t.light .chime).queued = some .wake ∧
                  t.ntq = posted s .alertPlayed 2 (16 * (patternNumber q : Int) + 6) ∧
                  t.lgt.chimeDone = (s.lgt.chimeDone || decide (q = .wake))
              else
                (t.light .chime).queued = some q ∧ t.ntq = played 2 ∧ t.lgt.chimeDone = true

/-! ### Timer unit and duty clock -/

/-- Tier 2. A timer second moves the seconds counter and, with the clock valid, the time of day, finds the entries that are
due, and counts the second in CD and DD, with the notices and alerts of the warnings it reaches, or in NS with its
thresholds, marks, BREAK_TAKEN and DAILY_REST_DONE; each setting of CD or DD to 0, also by the second part of a split break,
clears its latches and drops its repeat count (R105 to R107, R109 to R113, R124, R125, R133). That all this goes on at the
saturated seconds counter is the model's choice (log 45), and so is that a second which completes a vehicle hold counts for
the kind in force until then, with the effective state unchanged (log 52; R104 allows either order), that every other event
of the second comes after it (log 74), and that its alerts come between two sample sets (log 72); the list of the entries
found due is its own field (log 34). -/
def Obligations.TimerSecondMovesTheClocks : Prop :=
  ∀ s : State, Awake s →
    ∃ t, exec .timerSecond s = .next t ∧ t = { s with tmr := t.tmr, duty := t.duty, ntq := t.ntq, lgt := t.lgt } ∧
      t.tmr.seconds = satSucc 4294967295 s.tmr.seconds ∧ t.tmr.valid = s.tmr.valid ∧ t.tmr.table = s.tmr.table ∧
      (s.tmr.valid = false → t.tmr.minute = s.tmr.minute ∧ t.tmr.second = s.tmr.second) ∧
      (s.tmr.valid = true → s.tmr.minute < 10080 → s.tmr.second < 60 →
        60 * t.tmr.minute + t.tmr.second = (60 * s.tmr.minute + s.tmr.second + 1) % 604800 ∧ t.tmr.second < 60) ∧
      t.tmr.firing = (s.tmr.table.filter fun e => e.isDue t.tmr.seconds).map (·.id) ∧
      t.duty.current = { s.duty.current with duration := satSucc 4294967295 s.duty.current.duration } ∧
      t.duty.closed = s.duty.closed ∧ t.duty.session = s.duty.session ∧ t.duty.reported = s.duty.reported ∧
      t.duty.effective = s.duty.effective ∧ t.duty.hold = s.duty.hold.map (satSucc 10) ∧
      t.duty.stale = (if s.meas.ign.level then satSucc 30 s.duty.stale else s.duty.stale) ∧
      let w := s.set
      if s.duty.current.kind = .drive then
        t.duty.cd = satSucc 4294967295 s.duty.cd ∧ t.duty.dd = satSucc 4294967295 s.duty.dd ∧
          t.duty.ns = s.duty.ns ∧ t.duty.marks = s.duty.marks ∧
          t.duty.cdPre = (s.duty.cdPre || decide (60 * (w.limitCd - w.warnCd) ≤ t.duty.cd)) ∧
          t.duty.cdLimit = (s.duty.cdLimit || decide (60 * w.limitCd ≤ t.duty.cd)) ∧
          t.duty.ddPre = (s.duty.ddPre || decide (60 * (w.limitDd - w.warnDd) ≤ t.duty.dd)) ∧
          t.duty.ddLimit = (s.duty.ddLimit || decide (60 * w.limitDd ≤ t.duty.dd)) ∧
          (s.duty.cdLimit = false → t.duty.cdLimit = true → t.duty.cdRepeat = some (60 * w.limitRepeat)) ∧
          (s.duty.cdLimit = true → t.duty.cdRepeat = s.duty.cdRepeat.map (· - 1)) ∧
          (s.duty.ddLimit = false → t.duty.ddLimit = true → t.duty.ddRepeat = some (60 * w.limitRepeat)) ∧
          (s.duty.ddLimit = true → t.duty.ddRepeat = s.duty.ddRepeat.map (· - 1)) ∧
          (let warned (was now : Bool) (k : Notice) (pat : Pattern) (seconds : Nat) (u : State) : State :=
             if was = false ∧ now = true then
               requestBetween pat { u with ntq := posted u k 0 (seconds / 60 : Nat) }
             else u
           let d := s.duty
           let e := t.duty
           let v :=
             warned d.ddLimit e.ddLimit .dailyLimit .dailyLimit e.dd
               (warned d.ddPre e.ddPre .dailyPrewarn .dailyPrewarn e.dd
                 (warned d.cdLimit e.cdLimit .driveLimit .driveLimit e.cd
                   (warned d.cdPre e.cdPre .drivePrewarn .drivePrewarn e.cd { s with tmr := t.tmr })))
           t.ntq = v.ntq ∧ t.lgt = v.lgt)
      else
        let n := satSucc 4294967295 s.duty.ns
        let reaches (was : Bool) (minutes : Nat) : Prop := was = false ∧ 60 * minutes ≤ n
        t.duty.ns = n ∧
          t.duty.marks.first = (s.duty.marks.first || decide (60 * w.breakFirst ≤ n)) ∧
          t.duty.marks.second = (s.duty.marks.second || decide (60 * w.breakSecond ≤ n)) ∧
          t.duty.marks.full = (s.duty.marks.full || decide (60 * w.breakFull ≤ n)) ∧
          t.duty.marks.daily = (s.duty.marks.daily || decide (60 * w.dailyRest ≤ n)) ∧
          (let second := reaches s.duty.marks.second w.breakSecond ∧ s.duty.sp = true
           let full := reaches s.duty.marks.full w.breakFull
           let daily := reaches s.duty.marks.daily w.dailyRest
           (daily →
             t.duty.dd = 0 ∧ t.duty.ddPre = false ∧ t.duty.ddLimit = false ∧ t.duty.ddRepeat = none ∧
               t.duty.historyIncomplete = false) ∧
             (¬daily →
               t.duty.dd = s.duty.dd ∧ t.duty.ddPre = s.duty.ddPre ∧ t.duty.ddLimit = s.duty.ddLimit ∧
                 t.duty.ddRepeat = s.duty.ddRepeat ∧ t.duty.historyIncomplete = s.duty.historyIncomplete) ∧
             (second ∨ full ∨ daily →
               t.duty.cd = 0 ∧ t.duty.cdPre = false ∧ t.duty.cdLimit = false ∧ t.duty.cdRepeat = none) ∧
             (¬second → ¬full → ¬daily →
               t.duty.cd = s.duty.cd ∧ t.duty.cdPre = s.duty.cdPre ∧ t.duty.cdLimit = s.duty.cdLimit ∧
                 t.duty.cdRepeat = s.duty.cdRepeat)) ∧
          (let second := reaches s.duty.marks.second w.breakSecond ∧ s.duty.sp = true
           let full := reaches s.duty.marks.full w.breakFull
           let daily := reaches s.duty.marks.daily w.dailyRest
           let first := reaches s.duty.marks.first w.breakFirst ∧ s.duty.sp = false
           let minutes : Int := (n / 60 : Nat)
           let now := t.tmr.seconds
           let q1 := if second then s.ntq.post now .breakTaken 1 minutes else s.ntq
           let q2 := if full ∧ s.duty.breakGiven = false ∧ ¬second then q1.post now .breakTaken 0 minutes else q1
           t.ntq = (if daily then q2.post now .dailyRestDone 0 minutes else q2) ∧ t.lgt = s.lgt ∧
             (t.duty.sp = true ↔ s.duty.sp = true ∧ ¬second ∧ ¬full ∧ ¬daily) ∧
             (t.duty.pf = true ↔ (s.duty.pf = true ∨ first) ∧ ¬second ∧ ¬full ∧ ¬daily) ∧
             (t.duty.breakGiven = true ↔ s.duty.breakGiven = true ∨ second ∨ full))

/-- COOLING SET with an on flag and the setpoint held, by a fired entry (R69, Table 76; the off time left: logs 11, 22; the
cut-in test: log 46; the failure count: log 67). -/
def Sys2Proof.Machine.FiredCooling (on : Bool) (res : Result) (u v : State) : Prop :=
  if u.sys.phase = .settling then res = .notReady ∧ v = u
  else if coolingFitted u = false then res = .notFitted ∧ v = u
  else
    res = .ok ∧ v = { u with cool := v.cool, out := v.out, ntq := v.ntq } ∧
      CoolingTurned on u.cool.setpoint u v

/-- SET LIGHT by a fired entry (R86, Table 76). -/
def Sys2Proof.Machine.FiredLight (l : Light) (level ramp : Nat) (res : Result) (u v : State) : Prop :=
  let r := u.light l
  let stored := levelTaken l level
  let time := if l = .chime then 0 else min 60000 ramp
  let moves : Prop := r.playing = none ∧ r.active = none
  if u.sys.phase = .settling then res = .notReady ∧ v = u
  else if fitted u (lightConsumer l) = false then res = .notFitted ∧ v = u
  else
    res = (if stored = level ∧ time = ramp ∧ ¬(l ≠ .chime ∧ r.degraded ∧ 30 < stored) then .ok else .okClamped) ∧
      v = { u with lgt := v.lgt } ∧ OnlyLight l u v ∧
      (v.light l).steady = stored ∧
      (v.light l).lastNonzero = (if stored = 0 then r.lastNonzero else stored) ∧
      (moves → time = 0 → (v.light l).present = stored ∧ (v.light l).ramp = none) ∧
      (moves → time ≠ 0 →
        (v.light l).present = r.present ∧ (v.light l).ramp = some ⟨r.present, stored, time, 0⟩) ∧
      (¬moves → (v.light l).present = r.present ∧ (v.light l).ramp = r.ramp) ∧
      v.light l = { r with
        steady := (v.light l).steady, lastNonzero := (v.light l).lastNonzero, ramp := (v.light l).ramp
        present := (v.light l).present }

/-- WAKE was withdrawn from BUNK_LOWER or CHIME (R95, R96): a WAKE part is gone from both slots, and in place of a playing one
the consumer goes on as R95 states. -/
def Sys2Proof.Machine.WakeLeft (l : Light) (s w : State) : Prop :=
  let r := s.light l
  let queued := if r.queued = some .wake then none else r.queued
  if r.playing.map (·.pattern) = some .wake then
    match queued with
    | some q => w.light l = { partStarted q l s.lgt.wakeRamp r with queued := none }
    | none =>
      match r.waiting with
      | p :: rest => StepBegan p 1 1 { r with playing := none, queued := none, waiting := rest } (w.light l)
      | [] => w.light l = { r with playing := none, queued := none, ramp := none, present := r.steady }
  else w.light l = { r with queued := queued }

/-- WAKE was requested with a lead in ms (R96): an earlier WAKE is withdrawn, the wake record is set, and the light part is
placed by the checks of R94. -/
def Sys2Proof.Machine.WakeRequested (lead : Nat) (s t : State) : Prop :=
  ∃ w : State,
    w = { s with lgt := w.lgt, ntq := w.ntq } ∧ WakeLeft .lower s w ∧ WakeLeft .chime s w ∧
      w.light .upper = s.light .upper ∧ w.lgt.cutoffHold = s.lgt.cutoffHold ∧ (s.lgt.ok → w.ntq = wakeWithdrawn s) ∧
      PartPlaced .wake .lower
        { w with lgt := { w.lgt with
          wakeRamp := max lead 60000, wakeTimer := some (max lead 60000), chimeDone := false
          chimeFresh := false } } t

/-- An owner performs the action of a fired entry from `u` to `v` and returns a result code (Table 76, R40, R116). -/
def Sys2Proof.Machine.Performed (a : Action) (res : Result) (u v : State) : Prop :=
  match a with
  | .heaterStart target minutes => FiredStart target minutes res u v
  | .heaterStop =>
    if u.sys.phase = .settling then res = .notReady ∧ v = u
    else if heaterFitted u = false then res = .notFitted ∧ v = u
    else res = .ok ∧ HeaterStopped u v ∧ v = { u with htr := v.htr, out := v.out, ntq := v.ntq }
  | .coolingOn => FiredCooling true res u v
  | .coolingOff => FiredCooling false res u v
  | .lightLevel l level ramp => FiredLight l level ramp res u v
  | .alert pat => res = .ok ∧ if pat = .wake then WakeRequested 60000 u v else AlertBetween pat u v
  | .wake => res = .ok ∧ ∀ x, u.duty.session = some x → WakeRequested (60000 * x.wakeLead) u v
  | .restEnd =>
    res = .ok ∧ ∀ x, u.duty.session = some x →
      v = { u with
        duty := { u.duty with session := some { x with state := .due } }
        ntq := posted u .restDue 0 x.planned }
  | .prewarm =>
    ∀ x w, u.duty.session = some x → x.prewarm = some w → FiredStart w.target u.set.defaultRun res u v

/-- An entry of the table fires from `s` to `t` (R133): a WEEKLY one is re-armed and any other removed, its owner performs the
action and returns a result code, and TIMER_FIRED is posted with that code and the id. -/
def Sys2Proof.Machine.EntryFired (e : Entry) (s t : State) : Prop :=
  let u : State :=
    { s with
      tmr :=
        match e.form with
        | .weekly _ _ => s.tmr.put (s.tmr.arm e)
        | _ => s.tmr.remove e.id }
  let r := performAction e.action u
  t = { r.2 with ntq := posted r.2 .timerFired (resultCode r.1) e.id } ∧
    r.2 = { u with
      htr := r.2.htr, cool := r.2.cool, lgt := r.2.lgt, out := r.2.out, duty := r.2.duty, ntq := r.2.ntq } ∧
    (e.action ≠ .restEnd → r.2.duty = s.duty) ∧ Performed e.action r.1 u r.2

/-- A linked entry, if still present, is moved to its due time of a session, and fires at once where that is at or before the
seconds counter (R117, R135). -/
def Sys2Proof.Machine.LinkedMoved (x : Session) (id : Nat) (s t : State) : Prop :=
  match s.tmr.find id with
  | none => t = s
  | some e =>
    let moved : Entry := { e with due := some (linkedDue x id) }
    let u : State := { s with tmr := s.tmr.put moved }
    if s.tmr.seconds < linkedDue x id then t = u else EntryFired moved u t

/-- Tier 2. The firing of an entry re-arms a WEEKLY one and removes any other, then hands its action to the owner, which
performs it as Table 76 gives and returns a result code, and last posts TIMER_FIRED with that code and the id; an alert has
its parts placed by the checks of R94 (R40, R69, R86, R93 to R96, R116, R133). Which entry fires is the model's reading:
those that the check of the last timer second found due and that are still due, in table order (log 34); that a start leaves
the fixed stage as held is its reading too (log 29). The order of the notices at a withdrawal of WAKE is its choice (log 16),
and so are that the firing comes after the duty second (log 74) and that its alert comes between two sample sets (log 72); a
COOLING_ON or COOLING_OFF rests on logs 11, 22, 46 and 67 as COOLING SET does. -/
def Obligations.TimerEntryFiresAndIsReported : Prop :=
  ∀ (s : State) (e : Entry), Awake s → s.tmr.nextFiring = some e →
    ∃ t, exec .timerEntryFire s = .next t ∧ EntryFired e s t

/-- Tier 1. R131: CLEAR TIMER removes the host entry with its id; an id that is not in the table changes nothing. -/
def Obligations.ClearTimerRemovesAHostEntry : Prop :=
  ∀ (ctr : Byte) (p : List Byte) (s : State), LinkFree s →
    ∃ t, exec (.clearTimer ctr p) s = .next t ∧
      if p.length ≠ 1 then Refused .clearTimer ctr p .badLength s t
      else if u8At p 0 = 0 ∨ 239 < u8At p 0 then Refused .clearTimer ctr p .badField s t
      else if s.sys.phase = .settling then Refused .clearTimer ctr p .notReady s t
      else
        Replied .clearTimer ctr p .ok [] s t ∧
          t = { s with tmr := t.tmr, lnk := t.lnk, free := t.free } ∧
          t.tmr = { s.tmr with table := t.tmr.table, firing := t.tmr.firing } ∧
          t.tmr.table = s.tmr.table.filter (fun e => e.id != u8At p 0) ∧
          ((∀ e ∈ s.tmr.table, e.id ≠ u8At p 0) → t.tmr.table = s.tmr.table)

/-- Tier 2. SET CLOCK sets the time of day and arms or re-arms the clock forms, reporting the ONCE_AT entries that a change
forward skips; SET TIMER adds or replaces a host entry, armed; an occurrence is strictly later and at most a week ahead
(R126, R129, R130, R134). That the TIMER_MISSED notices come in table order is the model's choice (log 71). -/
def Obligations.SetClockAndSetTimerArmTheTable : Prop :=
  (∀ (ctr : Byte) (p : List Byte) (s : State), LinkFree s →
      ∃ t, exec (.setClock ctr p) s = .next t ∧
        let hour := min 23 (u8At p 1)
        let minute := min 59 (u8At p 2)
        let second := min 59 (u8At p 3)
        let d := (t.tmr.timeOfWeek + 604800 - s.tmr.timeOfWeek) % 604800
        let skipped :=
          if d ≤ 302400 then
            (s.tmr.table.filter fun e =>
              match e.form, e.due with
              | .onceAt _, some due => decide (due ≤ s.tmr.seconds + d)
              | _, _ => false).map (·.id)
          else []
        if p.length ≠ 4 then Refused .setClock ctr p .badLength s t
        else if 6 < u8At p 0 then Refused .setClock ctr p .badField s t
        else if s.sys.phase = .settling then Refused .setClock ctr p .notReady s t
        else
          Replied .setClock ctr p
              (if hour = u8At p 1 ∧ minute = u8At p 2 ∧ second = u8At p 3 then .ok else .okClamped) [] s t ∧
            t = { s with tmr := t.tmr, ntq := t.ntq, lnk := t.lnk, free := t.free } ∧
            t.tmr.valid = true ∧ t.tmr.minute = u8At p 0 * 1440 + hour * 60 + minute ∧ t.tmr.second = second ∧
            t.tmr.seconds = s.tmr.seconds ∧
            if s.tmr.valid = false then
              t.tmr.table = orderEntries (s.tmr.table.map fun e => if e.due.isNone then t.tmr.arm e else e) ∧
                t.ntq = s.ntq
            else if d = 0 then t.tmr.table = s.tmr.table ∧ t.ntq = s.ntq
            else
              t.tmr.table =
                  orderEntries ((s.tmr.table.filter fun e => !skipped.contains e.id).map fun e =>
                    if e.form.isClock then t.tmr.arm e else e) ∧
                t.ntq = skipped.foldl (fun q (id : Nat) => q.post s.tmr.seconds .timerMissed 0 (id : Int)) s.ntq) ∧
    (∀ (ctr : Byte) (p : List Byte) (s : State), LinkFree s →
      ∃ t, exec (.setTimer ctr p) s = .next t ∧
        if p.length ≠ 11 then Refused .setTimer ctr p .badLength s t
        else if u8At p 0 = 0 ∨ 239 < u8At p 0 then Refused .setTimer ctr p .badField s t
        else
          match formOf p, actionOf p with
          | some (f, c), some (a, c') =>
            let e := s.tmr.arm ⟨u8At p 0, f, a, none⟩
            if s.sys.phase = .settling then Refused .setTimer ctr p .notReady s t
            else if s.tmr.find (u8At p 0) = none ∧ 10 ≤ s.tmr.table.length then
              Refused .setTimer ctr p .noRoom s t
            else
              Replied .setTimer ctr p (if c || c' then .okClamped else .ok) (entryState s.free e) s t ∧
                t = { s with tmr := t.tmr, lnk := t.lnk, free := t.free } ∧
                t.tmr.find (u8At p 0) = some e ∧ (∀ id, id ≠ u8At p 0 → t.tmr.find id = s.tmr.find id) ∧
                (∀ n, f = .after n → e.due = some (s.tmr.seconds + n)) ∧
                (∀ m, f = .onceAt m → e.due =
                  if s.tmr.valid then some (s.tmr.seconds + secondsTo s.tmr.timeOfWeek m) else none)
          | _, _ => Refused .setTimer ctr p .badField s t) ∧
    ∀ tow minute, tow < 604800 → minute < 10080 →
      1 ≤ secondsTo tow minute ∧ secondsTo tow minute ≤ 604800 ∧
        (tow + secondsTo tow minute) % 604800 = 60 * minute

/-- Tier 1. R127: READ CLOCK returns the valid flag, the time of day and the seconds counter in 9 bytes and changes
nothing. -/
def Obligations.ReadClockReturnsTheClock : Prop :=
  ∀ (ctr : Byte) (p : List Byte) (s : State), LinkFree s → s.tmr.ok →
    ∃ t, exec (.readClock ctr p) s = .next t ∧
      if p.length ≠ 0 then Refused .readClock ctr p .badLength s t
      else if s.sys.phase = .settling then Refused .readClock ctr p .notReady s t
      else
        ∃ payload : List Byte, RepliedOnly .readClock ctr p .ok payload s t ∧ payload.length = 9 ∧
          payload =
            (if s.tmr.valid then
               [1, BitVec.ofNat 8 (s.tmr.minute / 1440), BitVec.ofNat 8 (s.tmr.minute % 1440 / 60),
                BitVec.ofNat 8 (s.tmr.minute % 60), BitVec.ofNat 8 s.tmr.second]
             else [0, 0, 0, 0, 0]) ++ natBytes 4 s.tmr.seconds

/-- A session interrupted by driving off (R119): entries and WAKE are gone, a short rest is reported with its alert, and the
end of the rest is reported. The order of the notices is the model's choice (log 16). -/
def Sys2Proof.Machine.SessionInterrupted (x : Session) (s t : State) : Prop :=
  let elapsed := s.tmr.seconds - x.start
  let minutes : Int := (elapsed / 60 : Nat)
  let w := withdrawWake { s with tmr := t.tmr }
  let a :=
    if elapsed < 60 * x.planned then
      requestAlert .restShort { w with ntq := w.ntq.post s.tmr.seconds .restShort 2 minutes }
    else w
  t = { s with duty := t.duty, tmr := t.tmr, lgt := t.lgt, ntq := t.ntq } ∧ t.duty.session = none ∧
    (∀ id, id = 240 ∨ id = 241 ∨ id = 242 → t.tmr.find id = none) ∧
    (∀ id, id < 240 → t.tmr.find id = s.tmr.find id) ∧ t.lgt.wakeTimer = none ∧
    (∀ l, l ≠ .upper → (t.light l).playing.map (·.pattern) ≠ some .wake ∧ (t.light l).queued ≠ some .wake) ∧
    (s.lgt.ok → w.ntq = wakeWithdrawn s) ∧ t.lgt = a.lgt ∧
    t.ntq = a.ntq.post s.tmr.seconds .restEnd 2 minutes

/-- Tier 2. SET VEHICLE STATE stores the reported state and starts, keeps or drops the hold count; at 10 s of hold the state
takes effect and the kind of activity follows, a change to DRIVE interrupting a session and ending the span; at 30 s without
a report the state is called stale; a limit is repeated at the end of its interval, with its notice and its alert, whose
parts are placed by the checks of R94 (R94, R104 to R107, R111, R113, R119). The order of the notices of an interruption is
the model's choice (log 16), and so are that these events come after the duty second that completes them (logs 52, 60, 74)
and that the alert of a repeat comes between two sample sets (log 72). -/
def Obligations.VehicleStateTakesEffect : Prop :=
  (∀ (ctr : Byte) (p : List Byte) (s : State), LinkFree s →
      ∃ t, exec (.setVehicleState ctr p) s = .next t ∧
        let v : Vehicle := if u8At p 0 = 1 then .moving else .stopped
        if p.length ≠ 1 then Refused .setVehicleState ctr p .badLength s t
        else if 1 < u8At p 0 then Refused .setVehicleState ctr p .badField s t
        else if s.sys.phase = .settling then Refused .setVehicleState ctr p .notReady s t
        else
          Replied .setVehicleState ctr p .ok [] s t ∧ t = { s with duty := t.duty, lnk := t.lnk, free := t.free } ∧
            t.duty = { s.duty with
              reported := v, stale := 0, staleFlag := false
              hold :=
                if s.meas.ign.level = true ∧ v ≠ s.duty.effective then
                  (match s.duty.hold with | some n => some n | none => some 0)
                else none }) ∧
    (∀ s : State, Awake s → s.duty.hold = some 10 →
      ∃ t, exec .vehicleHoldExpiry s = .next t ∧
        t = { s with duty := t.duty, tmr := t.tmr, lgt := t.lgt, ntq := t.ntq } ∧
        t.duty.effective = s.duty.reported ∧ t.duty.hold = none ∧
        let moves := s.meas.ign.level = true ∧ s.duty.reported = .moving
        let kind : Kind := if moves then .drive else if s.duty.session.isSome then .rest else .stop
        t.duty.current.kind = kind ∧ (moves → s.duty.current.kind ≠ .drive → t.duty.session = none) ∧
          (moves ∧ s.duty.current.kind ≠ .drive →
            t.duty.sp = (s.duty.sp || s.duty.pf) ∧ t.duty.pf = false ∧ t.duty.ns = 0 ∧
              t.duty.marks = ⟨false, false, false, false⟩ ∧ t.duty.breakGiven = false ∧ t.duty.cd = s.duty.cd ∧
              t.duty.dd = s.duty.dd ∧
              match s.duty.session with
              | some x => SessionInterrupted x s t
              | none => t = { s with duty := t.duty }) ∧
          (¬(moves ∧ s.duty.current.kind ≠ .drive) →
            t = { s with duty := { s.duty with
              effective := s.duty.reported, hold := none, current := t.duty.current, closed := t.duty.closed } }) ∧
          (kind = s.duty.current.kind → t.duty.current = s.duty.current ∧ t.duty.closed = s.duty.closed) ∧
          (kind ≠ s.duty.current.kind →
            t.duty.current = ⟨kind, .open, s.tmr.seconds, 0⟩ ∧
              (s.duty.current.kind = .stop → kind = .drive →
                t.duty.closed = pushRing 47 s.duty.closed { s.duty.current with cause := .vehicle }) ∧
              (s.duty.current.kind = .rest → kind = .drive →
                t.duty.closed = pushRing 47 s.duty.closed { s.duty.current with cause := .interrupted }) ∧
              (s.duty.current.kind = .drive → kind = .stop →
                t.duty.closed = pushRing 47 s.duty.closed { s.duty.current with cause := .vehicle }))) ∧
    (∀ s : State, Awake s → s.meas.ign.level = true → s.duty.stale = 30 → s.duty.staleFlag = false →
      exec .vehicleStale s =
        .next { s with
          duty := { s.duty with staleFlag := true }
          ntq := posted s .vehicleStale 0 (if s.duty.effective = .moving then 1 else 0) }) ∧
    ∀ s : State, Awake s →
      (s.duty.cdRepeat = some 0 →
        ∃ t, exec (.limitRepeat .continuous) s = .next t ∧
          t = { s with duty := t.duty, ntq := t.ntq, lgt := t.lgt } ∧
          t.duty = { s.duty with
            cdRepeat := some (60 * s.set.limitRepeat), cdRepeatNo := satSucc 255 s.duty.cdRepeatNo } ∧
          AlertBetween .driveLimit
            { s with
              duty := t.duty
              ntq := posted s .driveLimit (satSucc 255 s.duty.cdRepeatNo) (s.duty.cd / 60 : Nat) } t ∧
          (s.set.warningEnabled = true → fitted s .chime = true → s.lgt.cutoffHold = false →
            (s.light .chime).playing = none → (s.light .chime).active = none →
            t.ntq = posted s .driveLimit (satSucc 255 s.duty.cdRepeatNo) (s.duty.cd / 60 : Nat) ∧
              (t.light .chime).playing = some ⟨.driveLimit, 0, none⟩)) ∧
      (s.duty.ddRepeat = some 0 →
        ∃ t, exec (.limitRepeat .daily) s = .next t ∧
          t = { s with duty := t.duty, ntq := t.ntq, lgt := t.lgt } ∧
          t.duty = { s.duty with
            ddRepeat := some (60 * s.set.limitRepeat), ddRepeatNo := satSucc 255 s.duty.ddRepeatNo } ∧
          AlertBetween .dailyLimit
            { s with
              duty := t.duty
              ntq := posted s .dailyLimit (satSucc 255 s.duty.ddRepeatNo) (s.duty.dd / 60 : Nat) } t ∧
          (s.set.warningEnabled = true → fitted s .chime = true → s.lgt.cutoffHold = false →
            (s.light .chime).playing = none → (s.light .chime).active = none →
            t.ntq = posted s .dailyLimit (satSucc 255 s.duty.ddRepeatNo) (s.duty.dd / 60 : Nat) ∧
              (t.light .chime).playing = some ⟨.dailyLimit, 0, none⟩))

/-- The linked entries still present follow a session's new planned end in ascending id, from `s` to `t` (R116, R117, R135):
each moves, and one whose new due time is at or before the seconds counter fires at once and is gone; a REST_END that fires
makes the session DUE. -/
def Sys2Proof.Machine.EntriesMoved (x : Session) (s t : State) : Prop :=
  (∃ a b, LinkedMoved x 240 s a ∧ LinkedMoved x 241 a b ∧ LinkedMoved x 242 b t) ∧
    t = { s with
      duty := { s.duty with session := t.duty.session }
      tmr := t.tmr, htr := t.htr, cool := t.cool, lgt := t.lgt, out := t.out, ntq := t.ntq } ∧
    (∀ e, s.tmr.find 242 = some e → e.action = .restEnd → linkedDue x 242 ≤ s.tmr.seconds →
      t.duty.session = some { x with state := .due }) ∧
    ((∀ id e, id = 240 ∨ id = 241 ∨ id = 242 → s.tmr.find id = some e → linkedDue x id ≤ s.tmr.seconds →
        e.action ≠ .restEnd) →
      t.duty.session = some x) ∧
    (∀ id, id ≠ 240 → id ≠ 241 → id ≠ 242 → t.tmr.find id = s.tmr.find id) ∧
    ∀ id, id = 240 ∨ id = 241 ∨ id = 242 → (∀ e, s.tmr.find id = some e → e.form = .linked) →
      t.tmr.find id =
        if s.tmr.seconds < linkedDue x id then (s.tmr.find id).map fun e => { e with due := some (linkedDue x id) }
        else none

/-- Tier 2. BEGIN REST, answered OK_CLAMPED where a number was clamped, makes the session with its linked entries and opens a
REST record; EXTEND REST moves the planned end and the entries, and in a shortened session an entry whose due time has passed
fires at once, in ascending id, with its action and TIMER_FIRED, REST_END making the session DUE; END REST removes the
entries and the session, withdraws WAKE and reports (R114, R116 to R118, R133, R135). The order of the notices at a
withdrawal of WAKE is the model's choice (log 16), and that the start of a fired PREWARM leaves the fixed stage as held its
reading (log 29). -/
def Obligations.RestSessionsBeginMoveAndEnd : Prop :=
  (∀ (ctr : Byte) (p : List Byte) (s : State), LinkFree s →
      ∃ t, exec (.beginRest ctr p) s = .next t ∧
        let x : Session :=
          { state := .active, origin := .request, start := s.tmr.seconds
            planned := max 15 (min 720 (u16At p 0))
            wakeLead := min 60 (u8At p 2)
            prewarm :=
              if u8At p 3 = 1 then some ⟨min 90 (u8At p 4), max 50 (min 300 (i16At p 5))⟩ else none }
        if p.length ≠ 7 then Refused .beginRest ctr p .badLength s t
        else if 1 < u8At p 3 then Refused .beginRest ctr p .badField s t
        else if s.sys.phase = .settling then Refused .beginRest ctr p .notReady s t
        else if s.duty.current.kind = .drive ∨ s.duty.session.isSome then Refused .beginRest ctr p .wrongState s t
        else if 10 < s.tmr.table.length + entriesNeeded x s then Refused .beginRest ctr p .noRoom s t
        else
          Replied .beginRest ctr p
              (if x.planned = u16At p 0 ∧ x.wakeLead = u8At p 2 ∧
                  (u8At p 3 = 1 → u8At p 4 ≤ 90 ∧ 50 ≤ i16At p 5 ∧ i16At p 5 ≤ 300) then .ok
               else .okClamped)
              (encU s.free 4 (x.start + 60 * x.planned) ++
                encBitByte [decide (0 < x.wakeLead), sessionWarms x s, true]) s t ∧
            t = { s with
              duty := t.duty, tmr := t.tmr, lgt := t.lgt, ntq := t.ntq, lnk := t.lnk, free := t.free } ∧
            (¬(s.meas.ign.level = true ∧ s.duty.effective = .moving) → t.lgt = s.lgt ∧ SessionBegun x 0 s t)) ∧
    (∀ (ctr : Byte) (p : List Byte) (s : State), LinkFree s →
      ∃ t, exec (.extendRest ctr p) s = .next t ∧
        let len := max 15 (min 720 (u16At p 0))
        let res : Result := if len = u16At p 0 then .ok else .okClamped
        if p.length ≠ 2 then Refused .extendRest ctr p .badLength s t
        else if s.sys.phase = .settling then Refused .extendRest ctr p .notReady s t
        else
          match s.duty.session with
          | none => Refused .extendRest ctr p .wrongState s t
          | some old =>
            let x : Session := { old with planned := len }
            let answered := Replied .extendRest ctr p res (encU s.free 4 (x.start + 60 * len)) s t
            match old.state with
            | .active =>
              answered ∧ (∃ y, t.duty.session = some y ∧ y.planned = len ∧ y.start = old.start) ∧
                (∃ w : State, t = { w with lnk := t.lnk, free := t.free } ∧
                  EntriesMoved x
                    { s with
                      duty := { s.duty with session := some x }
                      lnk := { s.lnk with work := some ⟨ctr, kindOf .extendRest, p⟩ } } w) ∧
                ((∀ id, id = 240 ∨ id = 241 ∨ id = 242 → s.tmr.seconds < linkedDue x id) →
                  t.duty.session = some x ∧
                    t = { s with duty := t.duty, tmr := t.tmr, lnk := t.lnk, free := t.free } ∧
                    ∀ id, t.tmr.find id =
                      if id = 240 ∨ id = 241 ∨ id = 242 then
                        (s.tmr.find id).map fun e => { e with due := some (linkedDue x id) }
                      else s.tmr.find id)
            | .due =>
              if x.start + 60 * len ≤ s.tmr.seconds then
                answered ∧ t = { s with
                  duty := { s.duty with session := some x }, lnk := t.lnk, free := t.free }
              else if 10 ≤ s.tmr.table.length then Refused .extendRest ctr p .noRoom s t
              else
                answered ∧ t = { s with
                    duty := { s.duty with session := some { x with state := .active } }
                    tmr := t.tmr, lnk := t.lnk, free := t.free } ∧
                  t.tmr.find 242 = some ⟨242, .linked, .restEnd, some (linkedDue x 242)⟩) ∧
    ∀ (ctr : Byte) (p : List Byte) (s : State), LinkFree s →
      ∃ t, exec (.endRest ctr p) s = .next t ∧
        if p.length ≠ 0 then Refused .endRest ctr p .badLength s t
        else if s.sys.phase = .settling then Refused .endRest ctr p .notReady s t
        else
          match s.duty.session with
          | none => Refused .endRest ctr p .wrongState s t
          | some x =>
            let elapsed := s.tmr.seconds - x.start
            Replied .endRest ctr p .ok (encU s.free 2 (elapsed / 60)) s t ∧
              t = { s with
                duty := t.duty, tmr := t.tmr, lgt := t.lgt, ntq := t.ntq, lnk := t.lnk, free := t.free } ∧
              SessionEnded x 0 s t

/-- Tier 1. R108: READ PERIODS returns the number of records, the number returned, and up to four records from an index
toward older ones, and changes nothing. -/
def Obligations.ReadPeriodsReturnsFourRecords : Prop :=
  ∀ (ctr : Byte) (p : List Byte) (s : State), LinkFree s →
    ∃ t, exec (.readPeriods ctr p) s = .next t ∧
      if p.length ≠ 1 then Refused .readPeriods ctr p .badLength s t
      else if 47 < u8At p 0 then Refused .readPeriods ctr p .badField s t
      else if s.sys.phase = .settling then Refused .readPeriods ctr p .notReady s t
      else
        ∃ taken : List Period, taken = (s.duty.periods.reverse.drop (u8At p 0)).take 4 ∧
          taken.length = min 4 (s.duty.periods.length - u8At p 0) ∧
          ∃ payload : List Byte, RepliedOnly .readPeriods ctr p .ok payload s t ∧
            payload.length = 2 + 10 * taken.length ∧
            payload =
              [BitVec.ofNat 8 s.duty.periods.length, BitVec.ofNat 8 taken.length] ++
                taken.flatMap fun x =>
                  natBytes 1 (kindCode x.kind) ++ natBytes 1 (endCauseCode x.cause) ++ encU s.free 4 x.start ++
                    encU s.free 4 x.duration

/-! ### Reserve account -/

/-- Tier 1. SET ALLOWANCE and SET EXTERNAL DRAW take their clamped value; RESET ACCOUNT refills the account and reports the
charge that was drawn (R138 to R140). -/
def Obligations.AccountRequestsTakeEffect : Prop :=
  ∀ (ctr : Byte) (p : List Byte) (s : State), LinkFree s →
    (∃ t, exec (.setAllowance ctr p) s = .next t ∧
      let a := max 5000 (min 400000 (u32At p 0))
      if p.length ≠ 4 then Refused .setAllowance ctr p .badLength s t
      else if s.sys.phase = .settling then Refused .setAllowance ctr p .notReady s t
      else
        Replied .setAllowance ctr p (if a = u32At p 0 then .ok else .okClamped) [] s t ∧
          t = { s with rsv := { s.rsv with allowance := a }, lnk := t.lnk, free := t.free }) ∧
      (∃ t, exec (.setExternalDraw ctr p) s = .next t ∧
        let i := min 30000 (u16At p 0)
        if p.length ≠ 2 then Refused .setExternalDraw ctr p .badLength s t
        else if s.sys.phase = .settling then Refused .setExternalDraw ctr p .notReady s t
        else
          Replied .setExternalDraw ctr p (if i = u16At p 0 then .ok else .okClamped) [] s t ∧
            t = { s with rsv := { s.rsv with external := i }, lnk := t.lnk, free := t.free }) ∧
      ∃ t, exec (.resetAccount ctr p) s = .next t ∧
        if p.length ≠ 0 then Refused .resetAccount ctr p .badLength s t
        else if s.sys.phase = .settling then Refused .resetAccount ctr p .notReady s t
        else
          Replied .resetAccount ctr p .ok [] s t ∧
            t = { s with
              rsv := { s.rsv with drawn := 0, rem := 0 }
              ntq := posted s .accountRefilled 1 (s.rsv.drawn / 100 : Nat)
              lnk := t.lnk, free := t.free }

/-- Tier 2. 3 000 updates for the other charge state change it, and a charge of 20 min refills the account; a restore hold of
300 s pops the top step and reaches its owner, a fixed heater stage among them (R59); in LOW a step is applied every 30 s, with
cause BAND_LOW and one RESERVE_STEP alert; the refill and each step reach their owners and are reported (R59, R60, R72, R76,
R77, R97, R98); each sample set counts the run for the other charge state and the CHARGING spell (R137, R138, R145, R146, R148,
R150). That the alert of a step follows its notice is the model's choice (log 16), and so are the spell of 0 in DISCHARGING, on
leaving CHARGING too (log 53), the 30 s judged by the seconds counter of LOW_PACE_STEP itself (log 56), the band judged by
RESTORE_STEP itself (log 63), the stage time that restarts where the restore brings back a fixed stage (log 66), and the flags
of a step whose light or compressor is not fitted (log 70). -/
def Obligations.ChargeAndLadderEvents : Prop :=
  (∀ (r : RawSet) (s : State), Awake s →
      ∃ t, exec (.sampleSet r) s = .next t ∧ t.rsv.charging = s.rsv.charging ∧
        t.rsv.chargeRun =
          (if s.rsv.charging then (if t.meas.vbatF < 25600 then satSucc 3000 s.rsv.chargeRun else 0)
           else if 26400 ≤ t.meas.vbatF then satSucc 3000 s.rsv.chargeRun
           else 0) ∧
        t.rsv.spell = if s.rsv.charging then satSucc 6553500 s.rsv.spell else 0) ∧
    (∀ s : State, Awake s → 3000 ≤ s.rsv.chargeRun →
      exec .chargeStateChange s =
        .next
          (let r := { s.rsv with charging := !s.rsv.charging, chargeRun := 0, spell := 0 }
           if s.rsv.charging = true ∧ 120000 ≤ s.rsv.spell then
             { s with
               rsv := { r with drawn := 0, rem := 0 }
               ntq := posted s .accountRefilled 0 (s.rsv.drawn / 100 : Nat) }
           else { s with rsv := r })) ∧
    (∀ (s : State) (x : LadderStep), Awake s → s.rsv.stackOk → 300 ≤ s.rsv.restoreHold → s.rsv.band = .normal →
      0 < s.rsv.stack.length → s.rsv.ladder[s.rsv.stack.length - 1]? = some x →
      ∃ t, exec .restoreStep s = .next t ∧
        t = { s with rsv := t.rsv, htr := t.htr, cool := t.cool, lgt := t.lgt, out := t.out, ntq := t.ntq } ∧
        t.rsv = { s.rsv with
          stack := s.rsv.stack.dropLast, lastChange := s.tmr.seconds, restoreHold := 0 } ∧
        stepMark false x t ∧ t.ntq = posted s .restoreStep 0 s.rsv.stack.length ∧
        StepTouches x s t ∧ StepRestored x s t ∧
        (x.consumer = .heater →
          if x.action = .degrade ∧ s.htr.state = .run ∧ s.htr.mode = .fixed then
            let n := if stepApplied t.rsv .heater .degrade then 1 else s.htr.fixedStage
            t.htr.state = .run ∧ t.htr.stage = n ∧
              (n = s.htr.stage → t.htr = s.htr ∧ t.out = s.out) ∧
              (n ≠ s.htr.stage →
                t.htr.stageSets = 0 ∧ t.htr.ramp = some ⟨s.htr.peff, s.set.stagePower n, 0⟩ ∧
                  (t.chan .fan).demands (.duty, some (s.set.stageFanDuty n)) ∧ OnlyDemanded [.fan] s t)
          else t.htr = s.htr ∧ t.out = s.out)) ∧
    ∀ (s : State) (x : LadderStep), Awake s → s.rsv.accounted = true → s.rsv.band = .low →
      s.rsv.ladder[s.rsv.stack.length]? = some x → 30 ≤ s.tmr.seconds - s.rsv.lastChange →
      ∃ t, exec .lowPaceStep s = .next t ∧
        t = { s with rsv := t.rsv, htr := t.htr, cool := t.cool, lgt := t.lgt, out := t.out, ntq := t.ntq } ∧
        t.rsv = { s.rsv with
          stack := s.rsv.stack ++ [⟨s.rsv.stack.length + 1, s.tmr.seconds, ladderMean x.consumer s⟩]
          lastChange := s.tmr.seconds
          restoreHold := 0 } ∧
        stepMark true x t ∧
        let owned := handStep x { s with rsv := t.rsv }
        let told := { owned with ntq := posted owned .shedStep 2 (s.rsv.stack.length + 1 : Nat) }
        t = requestAlert .reserveStep told ∧
          StepTouches x s told ∧ StepReached x s told ∧
          told.ntq = stepPosted 2 (s.rsv.stack.length + 1) x s s.ntq ∧ PartPlaced .reserveStep .chime told t

/-- Tier 2. A completed band run changes the band, the deeper one first, and posts BAND_CHANGE with the new and the old code;
LOW applies a step, CRITICAL and CUTOFF the rest of the ladder; they stop a running compressor, CUTOFF stops the heater and sets
the cutoff hold, which ends the programs and every alert part but an URGENT one on CHIME, where the CUTOFF part plays or waits,
and leaving CUTOFF clears it (R59, R60, R76 to R78, R94, R97 to R99, R149 to R151, R169). That BAND_CHANGE comes before the
notices of the owners and the ladder is the model's choice (log 16), and so are the flags of a step whose light or compressor is
not fitted (log 70). Each sample set counts the runs toward the deeper bands and the leave run of the present one (R149). -/
def Obligations.BandChangeReachesTheOwners : Prop :=
  (∀ (r : RawSet) (s : State), Awake s →
    ∃ t, exec (.sampleSet r) s = .next t ∧ t.rsv.band = s.rsv.band ∧
      let v := t.meas.vbatF
      let run (holds : Bool) (top n : Nat) : Nat := if holds then satSucc top n else 0
      t.rsv.lowRun = run (s.rsv.band == .normal && decide (v < s.set.lowEnter)) 3000 s.rsv.lowRun ∧
        t.rsv.criticalRun =
          run ((s.rsv.band == .normal || s.rsv.band == .low) && decide (v < s.set.criticalEnter)) 1000
            s.rsv.criticalRun ∧
        t.rsv.cutoffRun = run (s.rsv.band != .cutoff && decide (v < s.set.cutoffEnter)) 500 s.rsv.cutoffRun ∧
        t.rsv.leaveRun =
          match s.rsv.band with
          | .normal => 0
          | .low => run (decide (s.set.lowLeave ≤ v)) 6000 s.rsv.leaveRun
          | .critical => run (decide (s.set.criticalLeave ≤ v)) 6000 s.rsv.leaveRun
          | .cutoff => run (decide (s.set.cutoffLeave ≤ v)) 6000 s.rsv.leaveRun) ∧
  ∀ (first alert : Bool) (s : State) (b : Band), Awake s → s.rsv.stackOk →
    (if 500 ≤ s.rsv.cutoffRun then b = .cutoff
     else if 1000 ≤ s.rsv.criticalRun then b = .critical
     else if 3000 ≤ s.rsv.lowRun then b = .low
     else
       6000 ≤ s.rsv.leaveRun ∧
         b = (match s.rsv.band with | .cutoff => .critical | .critical => .low | .low => .normal | .normal => .normal)) →
    ∃ t, exec (.bandChange first alert) s = .next t ∧
      t = { s with rsv := t.rsv, htr := t.htr, cool := t.cool, lgt := t.lgt, out := t.out, ntq := t.ntq } ∧
      (let u : State :=
         { s with
           rsv :=
             { s.rsv with
               band := b, lowRun := 0, criticalRun := 0, cutoffRun := 0, leaveRun := 0, cutoffHold := b == .cutoff }
           ntq := posted s .bandChange (bandCode b) (bandCode s.rsv.band) }
       t = withStretch s
         (if first then bandLadder s.rsv.band b (bandToOwners s.rsv.band b alert u)
          else bandToOwners s.rsv.band b alert (bandLadder s.rsv.band b u))) ∧
      t.rsv.band = b ∧ t.rsv.lowRun = 0 ∧ t.rsv.criticalRun = 0 ∧ t.rsv.cutoffRun = 0 ∧ t.rsv.leaveRun = 0 ∧
      t.rsv.cutoffHold = (b == .cutoff) ∧ t.rsv.drawn = s.rsv.drawn ∧ t.rsv.ladder = s.rsv.ladder ∧ t.rsv.stackOk ∧
      t.rsv.stack.length =
        (match b with
         | .normal => s.rsv.stack.length
         | .low =>
           if s.rsv.stack.length < s.rsv.ladder.length ∧ s.rsv.band ≠ .low then s.rsv.stack.length + 1
           else s.rsv.stack.length
         | .critical | .cutoff => s.rsv.ladder.length) ∧
      (b = .normal → t = { s with rsv := t.rsv, ntq := t.ntq }) ∧
      (b = .critical ∨ b = .cutoff → t.cool.state ≠ .running ∧ t.ntq.supplyTimer = none) ∧
      (b = .cutoff →
        t.lgt.cutoffHold = true ∧ t.htr.state.dosing = false ∧ t.htr.state.starting = false ∧
          (t.light .lower).applied = 0 ∧ (t.light .upper).applied = 0) ∧
      (b = .critical → s.rsv.band = .cutoff → t.lgt.cutoffHold = false) ∧
      (b = .low → s.rsv.band ≠ .low → ∀ x, s.rsv.ladder[s.rsv.stack.length]? = some x →
        stepMark true x t ∧ StepReached x s t) ∧
      (b = .critical ∨ b = .cutoff →
        (∀ x ∈ s.rsv.ladder.drop s.rsv.stack.length, stepMark true x t) ∧
          (⟨.heater, .shed⟩ ∈ s.rsv.ladder.drop s.rsv.stack.length → HeaterShed s.htr t) ∧
          (⟨.bunkLower, .shed⟩ ∈ s.rsv.ladder.drop s.rsv.stack.length → LampShed .lower (s.light .lower) t) ∧
          (⟨.bunkUpper, .shed⟩ ∈ s.rsv.ladder.drop s.rsv.stack.length → LampShed .upper (s.light .upper) t) ∧
          (if s.cool.state = .running then
             t.cool.state = .minOff ∧ (t.chan .compressor).demands (.off, none) ∧ t.cool.stopPending = false ∧
               t.cool.minOff =
                 (if (s.chan .compressor).state = .driving then 180000 else s.cool.minOff) ∧
               t.cool.offLeft =
                 (if s.cool.fallback then max t.cool.minOff (60000 * s.set.fallbackOff) else t.cool.minOff)
           else t.cool.state = s.cool.state)) ∧
      (b = .critical → (∀ a, ⟨.heater, a⟩ ∉ s.rsv.ladder.drop s.rsv.stack.length) → t.htr = s.htr) ∧
      (b = .cutoff →
        HeaterShed s.htr t ∧
          (∀ l, (t.light l).active = none ∧ (t.light l).waiting = [] ∧ (t.light l).steady = (s.light l).steady) ∧
          (∀ l, l ≠ .chime →
            t.light l = { s.light l with
              active := none, waiting := [], playing := none, queued := none, ramp := none
              present := (s.light l).steady, applied := 0
              degraded := (t.light l).degraded, shed := (t.light l).shed } ∧
              ((s.light l).applied ≠ 0 → (t.chan (lightConsumer l)).demands (.off, none))) ∧
          (let urgent (p : Option Pattern) : Option Pattern := p.filter fun x => alertRank x == 2
           let playing := (s.light .chime).playing.filter fun k => alertRank k.pattern == 2
           if fitted s .chime = false then
             (t.light .chime).playing = playing ∧ (t.light .chime).queued = urgent (s.light .chime).queued
           else if playing = none then
             (t.light .chime).playing = some ⟨.cutoff, 0, none⟩ ∧ (t.light .chime).present = 100 ∧
               (t.light .chime).queued = urgent (s.light .chime).queued
           else (t.light .chime).playing = playing ∧ (t.light .chime).queued = some .cutoff))

/-! ### Command link -/

/-- A REJECT was built and placed: the LINK timer restarts before the summary word is taken, and a REJECT that had not begun
to be sent is replaced (R160, R169). -/
def Sys2Proof.Machine.RejectBuilt (reason ctr : Byte) (s t : State) : Prop :=
  t = { s with ntq := { s.ntq with linkTimer := some 1000 }, lnk := t.lnk } ∧
    t.lnk = ({ s.lnk with ready := s.lnk.ready.filter fun x => !x.isReject } : Link).enqueue
      (.reject
        (replyFrame ctr 0 reason (summary t)
          (natBytes 2 s.lnk.checksum ++ natBytes 2 s.lnk.gap ++ natBytes 2 s.lnk.length ++ natBytes 2 s.lnk.overrun)))

/-- Tier 2. The receiver takes each character by its state, and a gap ends a partial or an over-long frame (R158); a character
with a framing error is discarded, drops a partial frame, or is dropped (R156). That a gap in HUNT ends nothing is the model's
choice (log 1). -/
def Obligations.ReceiverTakesEachCharacter : Prop :=
  ∀ (x : Byte) (s : State), Awake s →
    (s.lnk.rx = .hunt →
      exec (.receiveCharacter x true) s =
          .next (if x = 0xC3 then { s with lnk := { s.lnk with rx := .length } } else s) ∧
        exec (.receiveCharacter x false) s = .next s ∧ exec .linkGapTimeout s = .next s) ∧
    (s.lnk.rx = .length →
      exec (.receiveCharacter x true) s =
          .next { s with
            lnk := { s.lnk with rx := if x.toNat ≤ 48 then .body x [] else .discard none } } ∧
        exec (.receiveCharacter x false) s =
          .next { s with lnk := { s.lnk with rx := .hunt, gap := satSucc 65535 s.lnk.gap } } ∧
        exec .linkGapTimeout s =
          .next { s with lnk := { s.lnk with rx := .hunt, gap := satSucc 65535 s.lnk.gap } }) ∧
    (∀ len bytes, s.lnk.rx = .body len bytes →
      (bytes.length + 1 < len.toNat + 3 →
        exec (.receiveCharacter x true) s =
          .next { s with lnk := { s.lnk with rx := .body len (bytes ++ [x]) } }) ∧
        (len.toNat + 3 ≤ bytes.length + 1 →
          ∃ t, exec (.receiveCharacter x true) s = .next t ∧ t.lnk.rx = .hunt ∧
            t = checkFrame len (bytes ++ [x]) { s with lnk := { s.lnk with rx := .hunt } }) ∧
        exec (.receiveCharacter x false) s =
          .next { s with lnk := { s.lnk with rx := .hunt, gap := satSucc 65535 s.lnk.gap } } ∧
        exec .linkGapTimeout s =
          .next { s with lnk := { s.lnk with rx := .hunt, gap := satSucc 65535 s.lnk.gap } }) ∧
    ∀ kept, s.lnk.rx = .discard kept →
      (∀ stopHigh, exec (.receiveCharacter x stopHigh) s =
        .next { s with lnk := { s.lnk with rx := .discard (some (kept.getD x)) } }) ∧
        ∃ t, exec .linkGapTimeout s = .next t ∧
          RejectBuilt 0xF2 (kept.getD 0)
            { s with lnk := { s.lnk with rx := .hunt, length := satSucc 65535 s.lnk.length } } t

/-- Tier 2. A complete frame is checked, taken into work, kept as the pending frame, or dropped with a REJECT; the end of a
reply frees the link for the pending frame, and ready frames follow each other in order; a KIND outside Table 93 is
answered UNKNOWN_KIND (R159 to R161). That the completion of a frame has the effect of the request command of its kind is the
model's choice (log 6), and that the next ready frame begins in the event that ends the one before it, where R161 allows 5 ms,
its reading (log 7). -/
def Obligations.FramesAreServedInOrder : Prop :=
  (∀ (r : Request) (ctr : Byte) (p : List Byte) (s : State) (f g : Frame), Awake s → s.lnk.work = some f →
      (s.lnk.waiting = none →
        exec (commandOf r ctr p) s = .next { s with lnk := { s.lnk with waiting := some ⟨ctr, kindOf r, p⟩ } }) ∧
        (s.lnk.waiting = some g →
          ∃ t, exec (commandOf r ctr p) s = .next t ∧
            RejectBuilt 0xF3 ctr { s with lnk := { s.lnk with overrun := satSucc 65535 s.lnk.overrun } } t)) ∧
    (∀ (ctr kind : Byte) (p : List Byte) (s : State), LinkFree s → requestOf kind.toNat = none →
      ∃ t, exec (.unknownKind ctr kind p) s = .next t ∧ t = { s with lnk := t.lnk, free := s.free + 1 } ∧
        t.lnk = ({ s.lnk with work := some ⟨ctr, kind, p⟩ } : Link).enqueue
          (.reply (replyFrame ctr kind 2 (summary t) []))) ∧
    (∀ (r : Request) (ctr x : Byte) (p : List Byte) (s : State), Awake s →
      s.lnk.rx = .body (BitVec.ofNat 8 p.length) (ctr :: kindOf r :: p) → p.length ≤ 48 →
      if crc8 (BitVec.ofNat 8 p.length :: ctr :: kindOf r :: p) = x then
        exec (.receiveCharacter x true) s = exec (commandOf r ctr p) { s with lnk := { s.lnk with rx := .hunt } }
      else
        ∃ t, exec (.receiveCharacter x true) s = .next t ∧
          RejectBuilt 0xF1 ctr
            { s with lnk := { s.lnk with rx := .hunt, checksum := satSucc 65535 s.lnk.checksum } } t) ∧
    (∀ (s : State) (frame : List Byte), Awake s → s.lnk.tx = some (.reply frame) →
      let k := { s.lnk with work := none, tx := s.lnk.ready.head?, ready := s.lnk.ready.tail }
      (s.lnk.waiting = none → exec .frameSent s = .next { s with lnk := k }) ∧
        ∀ (r : Request) (ctr : Byte) (p : List Byte), s.lnk.waiting = some ⟨ctr, kindOf r, p⟩ →
          exec .frameSent s = exec (commandOf r ctr p) { s with lnk := { k with waiting := none } }) ∧
    ∀ (s : State) (frame : List Byte), Awake s → s.lnk.tx = some (.reject frame) →
      exec .rejectSent s =
        .next { s with lnk := { s.lnk with tx := s.lnk.ready.head?, ready := s.lnk.ready.tail } }

/-- Tier 2. R162: every reply, to whatever frame, carries one result; with a refusal nothing of the part changes and the reply
has no payload; the detail of a TIMER_FIRED notice is such a result code. -/
def Obligations.RefusedRequestsChangeNothing : Prop :=
  (∀ (r : Request) (ctr : Byte) (p : List Byte) (s : State), LinkFree s →
      ∃ t res payload, exec (commandOf r ctr p) s = .next t ∧ Replied r ctr p res payload s t ∧
        resultCode res ≤ 12 ∧ (2 ≤ resultCode res → Refused r ctr p res s t)) ∧
    (∀ (f : Frame) (s : State),
      let t := dispatch f s
      ∃ res payload, resultCode res ≤ 12 ∧
        t.lnk = s.lnk.enqueue
          (.reply (replyFrame f.ctr f.kind (BitVec.ofNat 8 (resultCode res)) (summary t) payload)) ∧
        (2 ≤ resultCode res → payload = [] ∧ t = { s with lnk := t.lnk, free := s.free + 1 })) ∧
    ∀ (s : State) (e : Entry), Awake s → s.tmr.nextFiring = some e →
      ∃ (t : State) (q : Ntq) (res : Result), exec .timerEntryFire s = .next t ∧
        t.ntq = q.post s.tmr.seconds .timerFired (resultCode res) e.id

/-! ### Notice queue -/

/-- Tier 1. A posted notice is combined with the record of its kind and source, the value of a LOST record summed; with no
such record it is appended while the queue holds fewer than 32, and counted as lost otherwise (R166, R167). -/
def Obligations.PostedNoticesAreCombinedAppendedOrLost : Prop :=
  ∀ (q : Ntq) (now : Nat) (k : Notice) (detail : Nat) (value : Int),
    let same (r : Record) : Prop := r.kind = k ∧ r.source = noticeSource k
    ((∃ r ∈ q.records, same r) →
      (q.post now k detail value) = { q with
        records := q.records.map fun r =>
          if r.kind = k ∧ r.source = noticeSource k then
            { r with
              count := satSucc 255 r.count, detail := detail
              value := if k = .lost then min 32767 (r.value + value) else value }
          else r }) ∧
      ((∀ r ∈ q.records, ¬same r) → q.records.length < 32 →
        q.post now k detail value =
          { q with records := q.records ++ [⟨k, noticeSource k, detail, value, 1, now⟩] }) ∧
      ((∀ r ∈ q.records, ¬same r) → 32 ≤ q.records.length →
        q.post now k detail value = { q with lost := satSucc 255 q.lost })

/-- The class at place `i` of Table 99 is active (R169). -/
def Sys2Proof.Machine.classActive (s : State) (i : Nat) : Prop :=
  match i with
  | 0 => ∃ c, (s.chan c).chans ≠ [] ∧ ((s.chan c).state = .tripped ∨ (s.chan c).state = .latched)
  | 1 => ∃ c, (s.chan c).chans ≠ [] ∧ (s.chan c).openLoad = true
  | 2 => s.rsv.band = .critical ∨ s.rsv.band = .cutoff ∨ s.out.floorHold = true ∨ s.ntq.supplyTimer ≠ none
  | 3 => s.out.thermalHold = true ∨ s.ntq.thermalTimer ≠ none
  | 4 => s.htr.state = .lockout ∨ s.out.stroke.fault = true
  | 5 => ∃ x, (s.meas.sensor x).validity = .fault
  | 6 => s.ntq.linkTimer ≠ none
  | _ => False

/-- The selected function of Table 100 is active (R170). -/
def Sys2Proof.Machine.nstaFunctionActive (s : State) : Prop :=
  match s.set.nstaFunction with
  | 0 => s.ntq.records ≠ []
  | 1 => s.set.nstaThreshold ≤ s.ntq.records.length
  | 2 => s.htr.flame = true
  | 3 => s.rsv.stack ≠ []
  | 4 => s.duty.session ≠ none
  | _ => ∃ l, (s.light l).playing ≠ none

/-- R169 on the stretch timer of a class at a sample set, with the condition before and after it. -/
def Sys2Proof.Machine.stretchAfter (stretch : Nat) (was is : Bool) (timer : Option Nat) : Option Nat :=
  if is then none
  else if was then (if stretch = 0 then none else some (1000 * stretch))
  else timer.map (· - 10)

/-- Tier 2. TAKE NOTICES removes the oldest records and returns them with their ages, in settling too; after a removal the
notices that were lost are posted as one; a stretch or LINK timer that has run out ends its class. After settling NFLT is
asserted exactly while a class of Table 99 is active and not masked, and the summary word shows it; NSTA follows the selected
function of Table 100 and the polarity; a condition that a sample set ends starts its stretch, and one that returns drops it
(R163, R164, R167 to R170). -/
def Obligations.TakeNoticesRemovesTheOldest : Prop :=
  (∀ (ctr : Byte) (p : List Byte) (s : State), LinkFree s →
      ∃ t, exec (.takeNotices ctr p) s = .next t ∧
        let n := max 1 (min 6 (u8At p 0))
        let taken := s.ntq.records.take n
        if p.length ≠ 1 then Refused .takeNotices ctr p .badLength s t
        else
          Replied .takeNotices ctr p (if n = u8At p 0 then .ok else .okClamped)
              (BitVec.ofNat 8 taken.length ::
                taken.flatMap fun r =>
                  [BitVec.ofNat 8 (noticeCode r.kind), BitVec.ofNat 8 (sourceCode r.source)] ++ encU s.free 1 r.detail ++
                    encI s.free 2 r.value ++ encU s.free 1 r.count ++
                    natBytes 2 (min 65535 (s.tmr.seconds - r.time))) s t ∧
            t = { s with ntq := t.ntq, lnk := t.lnk, free := t.free } ∧
            t.ntq =
              if taken = [] ∨ s.ntq.lost = 0 then { s.ntq with records := s.ntq.records.drop n }
              else
                ({ s.ntq with records := s.ntq.records.drop n, lost := 0 } : Ntq).post s.tmr.seconds .lost 0
                  s.ntq.lost) ∧
    (∀ s : State, s.sys.phase = .running → s.sys.loads = 10 →
      (nflt s = true ↔ ∃ i, classActive s i ∧ s.set.mask i = false) ∧ (summary s).testBit 1 = nflt s ∧
        (nstaLow s = true ↔ (nstaFunctionActive s ↔ s.set.nstaActiveHigh = false))) ∧
    (∀ (r : RawSet) (s : State), Awake s →
      ∃ t, exec (.sampleSet r) s = .next t ∧
        t.ntq.supplyTimer =
          stretchAfter s.set.supplyStretch (supplyCondition s) (supplyCondition t) s.ntq.supplyTimer ∧
        t.ntq.thermalTimer = stretchAfter s.set.thermalStretch s.out.thermalHold t.out.thermalHold s.ntq.thermalTimer ∧
        t.ntq.linkTimer = s.ntq.linkTimer.map (· - 10)) ∧
    ∀ s : State, Awake s →
      (s.ntq.supplyTimer = some 0 →
        exec (.stretchExpiry .supply) s = .next { s with ntq := { s.ntq with supplyTimer := none } }) ∧
        (s.ntq.thermalTimer = some 0 →
          exec (.stretchExpiry .thermal) s = .next { s with ntq := { s.ntq with thermalTimer := none } }) ∧
        (s.ntq.linkTimer = some 0 →
          exec .linkTimerExpiry s = .next { s with ntq := { s.ntq with linkTimer := none } })

/-! ### Settings store -/

/-- Tier 2. The settings requests check in the order of R174, R175, R177 and R121: READ SETTING returns the working copy and
changes nothing, WRITE SETTING changes one block of the working copy, a numeric field by its range or set and the ordering
rules, COMMIT BLOCK starts a write of a snapshot, CHECK STORE a check, LOCK DUTY RULES sets the lock. The place of the BAD_FIELD
of WRITE SETTING to block 9 among the checks is the model's reading (log 44). -/
def Obligations.SettingsRequestsFollowTheirChecks : Prop :=
  ∀ (ctr : Byte) (p : List Byte) (s : State), LinkFree s →
    (∃ t, exec (.readSetting ctr p) s = .next t ∧
      if p.length < 2 then Refused .readSetting ctr p .badLength s t
      else
        match blockOf (u8At p 0) with
        | none => Refused .readSetting ctr p .badField s t
        | some b =>
          if (fieldSpecs b).length ≤ u8At p 1 then Refused .readSetting ctr p .badField s t
          else if s.sys.phase = .settling ∧ s.sys.loads ≤ blockNumber b then
            Refused .readSetting ctr p .notReady s t
          else if p.length ≠ 2 then Refused .readSetting ctr p .badLength s t
          else
            RepliedOnly .readSetting ctr p .ok
              (match b with
               | .chanMap => mapBytes s.sto.working.chanMap.chanMap
               | .timers => fieldBytes (weeklyOf s.tmr).length
               | .reserve =>
                 if u8At p 1 = 3 then ladderBytes s.sto.working.reserve.ladder
                 else fieldBytes (fieldAt s.sto.working.reserve.nums (u8At p 1))
               | b => fieldBytes (fieldAt (s.sto.working.get b).nums (u8At p 1))) s t) ∧
      (∃ t, exec (.writeSetting ctr p) s = .next t ∧
        if p.length < 2 then Refused .writeSetting ctr p .badLength s t
        else
          match blockOf (u8At p 0) with
          | none => Refused .writeSetting ctr p .badField s t
          | some b =>
            let i := u8At p 1
            let old := s.sto.working.get b
            let stored (d : BlockData) (res : Result) : Prop :=
              Replied .writeSetting ctr p res [] s t ∧ t = { s with sto := t.sto, lnk := t.lnk, free := t.free } ∧
                t.sto = { s.sto with
                  working := s.sto.working.set b d
                  uncommitted := s.sto.uncommitted.set b true
                  activity := t.sto.activity } ∧
                t.sto.activity =
                  match s.sto.activity with
                  | .write w => .write (if w.block = b then { w with dirtied := true } else w)
                  | a => a
            let v := i32At p 2
            let taken (u : Int) : Prop :=
              if blockOrdered b (old.nums.set i u) then
                stored { old with nums := old.nums.set i u } (if u = v then .ok else .okClamped)
              else Refused .writeSetting ctr p .order s t
            if (fieldSpecs b).length ≤ i then Refused .writeSetting ctr p .badField s t
            else if s.sys.phase = .settling then Refused .writeSetting ctr p .notReady s t
            else if b = .heaterState ∨ (b = .dutyRules ∧ s.sto.lock = true) then
              Refused .writeSetting ctr p .locked s t
            else if b = .timers then Refused .writeSetting ctr p .badField s t
            else if b = .chanMap then
              if p.length ≠ 10 then Refused .writeSetting ctr p .badLength s t
              else
                match mapOf p with
                | none => Refused .writeSetting ctr p .badField s t
                | some m =>
                  if mapOrdered m then stored { old with chanMap := m } .ok
                  else Refused .writeSetting ctr p .order s t
            else if b = .reserve ∧ i = 3 then
              if p.length < 3 ∨ p.length ≠ 3 + 2 * u8At p 2 then Refused .writeSetting ctr p .badLength s t
              else
                match ladderOf p with
                | none => Refused .writeSetting ctr p .badField s t
                | some m =>
                  if ladderOrdered m then stored { old with ladder := m } .ok
                  else Refused .writeSetting ctr p .order s t
            else if p.length ≠ 6 then Refused .writeSetting ctr p .badLength s t
            else
              match (fieldSpecs b)[i]? with
              | some (.range lo hi _) => taken (max lo (min hi v))
              | some (.stepped lo hi _) => taken (max lo (min hi v) / 100 * 100)
              | some (.minutes _) => taken (if v ≤ 0 then 0 else max 10 (min 720 v))
              | some (.choice set _) =>
                if ¬set.contains v then Refused .writeSetting ctr p .badField s t else taken v
              | _ => Refused .writeSetting ctr p .badField s t) ∧
      (∃ t, exec (.commitBlock ctr p) s = .next t ∧
        if p.length ≠ 1 then Refused .commitBlock ctr p .badLength s t
        else
          match blockOf (u8At p 0) with
          | none => Refused .commitBlock ctr p .badField s t
          | some b =>
            if s.sys.phase = .settling then Refused .commitBlock ctr p .notReady s t
            else if b = .heaterState ∨ (b = .dutyRules ∧ s.sto.lock = true) then
              Refused .commitBlock ctr p .locked s t
            else if storeBusy s.sto ∨ s.sto.pendingPart then Refused .commitBlock ctr p .busy s t
            else
              Replied .commitBlock ctr p .ok [] s t ∧
                t = { s with
                  sto := { s.sto with
                    activity := .write
                      ⟨b, false, if b = .timers then ⟨[0], [], [], weeklyOf s.tmr⟩ else s.sto.working.get b, .writing,
                        false, false⟩ }
                  lnk := t.lnk, free := t.free }) ∧
      (∃ t, exec (.checkStore ctr p) s = .next t ∧
        if p.length ≠ 0 then Refused .checkStore ctr p .badLength s t
        else if s.sys.phase = .settling then Refused .checkStore ctr p .notReady s t
        else if storeBusy s.sto ∨ s.sto.pendingPart then Refused .checkStore ctr p .busy s t
        else
          Replied .checkStore ctr p .ok [] s t ∧
            t = { s with
              sto := { s.sto with
                activity := .check (s.sto.stored.heaterState.good .heaterState), check := .running }
              lnk := t.lnk, free := t.free }) ∧
      ∃ t, exec (.lockDutyRules ctr p) s = .next t ∧
        let committing : Bool :=
          match s.sto.activity with
          | .write w => w.block == .dutyRules && !w.part
          | _ => false
        if p.length ≠ 2 then Refused .lockDutyRules ctr p .badLength s t
        else if s.sys.phase = .settling then Refused .lockDutyRules ctr p .notReady s t
        else if s.sto.uncommitted.dutyRules || committing then Refused .lockDutyRules ctr p .order s t
        else if s.sto.held.dutyRules ≠ some (BitVec.ofNat 16 (u16At p 0)) then
          Refused .lockDutyRules ctr p .badField s t
        else
          Replied .lockDutyRules ctr p .ok [] s t ∧
            t = { s with sto := { s.sto with lock := true }, lnk := t.lnk, free := t.free }

/-- Tier 2. A write goes from its cell write to its read-back; a match completes it OK, a first mismatch repeats it, a second
one completes it WRITE_FAILED and leaves the block bad; the completion is reported, and a pending part write then starts; a
check ends in PASS, or FAIL with the lowest bad block (R173, R175 to R177; which state of block 3 a check reads: log
17). The held CRC of a write is the CRC-16 of R173 over the stored layout that is the model's reading (log 8, DEDUCED). -/
def Obligations.StoreWritesAndChecksComplete : Prop :=
  let next (s : State) (k : Store) (n : Notice) (detail : Nat) (value : Int) : State :=
    { s with
      sto :=
        if k.pendingPart then
          { k with
            pendingPart := false
            activity := .write ⟨.heaterState, true, lockoutData s.htr.lockout, .writing, false, false⟩ }
        else k
      ntq := posted s n detail value }
  (∀ (s : State) (w : Write), Awake s → s.sto.activity = .write w →
      (w.phase = .writing →
        exec .storeWriteDone s =
          .next { s with sto := { s.sto with activity := .write { w with phase := .reading } } }) ∧
        (w.phase = .reading →
          exec (.storeReadbackDone true) s =
              .next
                (next s
                  { s.sto with
                    activity := .idle
                    stored := s.sto.stored.set w.block (.written w.block w.snapshot)
                    held := s.sto.held.set w.block
                      (some (crc16 (blockImage formatByte w.block w.snapshot)))
                    uncommitted :=
                      if w.dirtied then s.sto.uncommitted else s.sto.uncommitted.set w.block false
                    lastWrite := some (w.block, true) }
                  .storeDone 0 (blockNumber w.block)) ∧
            (w.second = false →
              exec (.storeReadbackDone false) s =
                .next { s with
                  sto := { s.sto with activity := .write { w with phase := .writing, second := true } } }) ∧
            (w.second = true →
              exec (.storeReadbackDone false) s =
                .next
                  (next s
                    { s.sto with
                      activity := .idle
                      stored := s.sto.stored.set w.block { s.sto.stored.get w.block with marked := true }
                      held := s.sto.held.set w.block none
                      lastWrite := some (w.block, false) }
                    .storeDone 1 (blockNumber w.block))))) ∧
    ∀ (first began : Bool) (s : State), Awake s → s.sto.activity = .check began →
      let good (b : Block) : Bool :=
        if b = .heaterState ∧ first = true then began else (s.sto.stored.get b).good b
      ((∀ b, good b = true) →
        exec (.storeCheckDone first) s =
          .next (next s { s.sto with activity := .idle, check := .pass } .storeCheck 0 (-1))) ∧
        ∀ b, good b = false → (∀ b', blockNumber b' < blockNumber b → good b' = true) →
          exec (.storeCheckDone first) s =
            .next (next s { s.sto with activity := .idle, check := .fail b } .storeCheck 1 (blockNumber b))

/-- Tier 2. REINITIALISE is refused BUSY with the store engaged and WRONG_STATE with an active heater; accepted, it reloads
every block without DEFSEL, restarts the queue with RESTARTED first, the output stage, the lights, the ladder, the heater
and the cooling controller, and keeps the clock, the table, the duty clock, the measurements but the currents, and the
account (R37, R66, R83, R103, R155, R180). A reloaded block 3 that is flagged or bad gives LOCKOUT, a kept band CRITICAL or
CUTOFF applies the full ladder again, and each is reported. The model's own in it: the order of the notices (log 16), Tw of
the empty wake record (log 43), the off time left of 180 s in fallback too (log 49), the held flag clear without cooling
fitted (log 59), the reply built after the ladder is applied (log 62), and the flags of a step whose light or compressor is not
fitted (log 70). -/
def Obligations.ReinitialiseRestartsTheOwners : Prop :=
  ∀ (ctr : Byte) (p : List Byte) (s : State), LinkFree s →
    ∃ t, exec (.reinitialise ctr p) s = .next t ∧
      if p.length ≠ 0 then Refused .reinitialise ctr p .badLength s t
      else if s.sys.phase = .settling then Refused .reinitialise ctr p .notReady s t
      else if storeBusy s.sto ∨ s.sto.pendingPart then Refused .reinitialise ctr p .busy s t
      else if s.htr.state ≠ .off ∧ s.htr.state ≠ .waitDemand ∧ s.htr.state ≠ .lockout then
        Refused .reinitialise ctr p .wrongState s t
      else
        Replied .reinitialise ctr p .ok [] s t ∧
          t = { s with
            sys := { s.sys with cause := .reinitialise }
            meas := { s.meas with onCurrent := everyChannel 0, history := everyChannel [] }
            out := t.out, htr := t.htr, cool := t.cool, lgt := t.lgt, rsv := t.rsv, ntq := t.ntq, sto := t.sto
            lnk := t.lnk, free := t.free } ∧
          (∀ b, t.sto.working.get b =
              (if (s.sto.stored.get b).good b then (s.sto.stored.get b).data
               else if b = .heaterState then heaterStateBad
               else blockDefaults b) ∧
            t.sto.uncommitted.get b = false ∧
            t.sto.loadResult.get b = (if (s.sto.stored.get b).good b then .loaded else .badCheck) ∧
            t.sto.held.get b =
              if (s.sto.stored.get b).good b then some (s.sto.stored.get b).crc else none) ∧
          t.sto = { s.sto with
            working := t.sto.working, loadResult := t.sto.loadResult, held := t.sto.held
            uncommitted := t.sto.uncommitted } ∧
          t.sto.stored = s.sto.stored ∧ t.sto.lock = s.sto.lock ∧ t.sto.lastWrite = s.sto.lastWrite ∧
          t.sto.check = s.sto.check ∧
          t.ntq.records.head? = some ⟨.restarted, .ntq, 2, 0, 1, s.tmr.seconds⟩ ∧
          (let k := t.rsv.stack.length
           let code := if s.rsv.band = .critical then 3 else 4
           let restarted : Ntq := ⟨[⟨.restarted, .ntq, 2, 0, 1, s.tmr.seconds⟩], 0, none, none, none⟩
           let heater :=
             if t.htr.state = s.htr.state then restarted
             else
               restarted.post s.tmr.seconds .heaterState (heaterNumber t.htr.state)
                 (if t.htr.state = .lockout then causeCode t.htr.lockout.cause else 0)
           let lockout :=
             if t.htr.state = .lockout then
               heater.post s.tmr.seconds .heaterLockout (causeCode t.htr.lockout.cause).toNat t.htr.lockout.count
             else heater
           let cooling := lockout.post s.tmr.seconds .coolingState (if t.cool.state = .minOff then 1 else 0) 11
           t.ntq =
             defaultsPosted t.sto s.tmr.seconds
               ((List.range' 1 k).foldl (fun q n => q.post s.tmr.seconds .shedStep code (n : Nat)) cooling)) ∧
          t.out.mapInForce = t.set.chanMap.chanMap ∧ t.out.floorHold = s.out.floorHold ∧
          t.out.thermalHold = s.out.thermalHold ∧ (∀ c, (t.chan c).applied = 0) ∧
          t.rsv.allowance = t.set.allowance ∧ t.rsv.ladder = t.set.reserve.ladder ∧ t.rsv.drawn = s.rsv.drawn ∧
          t.rsv.band = s.rsv.band ∧ t.rsv.restoreHold = 0 ∧ t.rsv.lastChange = s.tmr.seconds ∧
          t.rsv.cutoffHold = (s.rsv.band == .cutoff) ∧ t.lgt.cutoffHold = (s.rsv.band == .cutoff) ∧
          (s.rsv.band = .normal ∨ s.rsv.band = .low →
            t.rsv.stack = [] ∧ t.lgt = Lights.start t.set.onLevelLower t.set.onLevelUpper false ∧
              t.cool.degraded = false ∧ t.cool.shed = false) ∧
          (s.rsv.band = .critical ∨ s.rsv.band = .cutoff →
            t.rsv.stack = (List.range' 1 t.rsv.ladder.length).map (fun n => ⟨n, s.tmr.seconds, 0⟩) ∧
              (∀ x ∈ t.rsv.ladder, stepMark true x t) ∧
              (∀ l, t.light l =
                { (Lights.start t.set.onLevelLower t.set.onLevelUpper (s.rsv.band == .cutoff)).recs.get l with
                  degraded := decide ((l = .lower ∧ ⟨.bunkLower, .degrade⟩ ∈ t.rsv.ladder) ∨
                    (l = .upper ∧ ⟨.bunkUpper, .degrade⟩ ∈ t.rsv.ladder))
                  shed := decide ((l = .lower ∧ ⟨.bunkLower, .shed⟩ ∈ t.rsv.ladder) ∨
                    (l = .upper ∧ ⟨.bunkUpper, .shed⟩ ∈ t.rsv.ladder)) }) ∧
              t.cool.degraded = decide (⟨.compressor, .degrade⟩ ∈ t.rsv.ladder) ∧
              t.cool.shed = decide (⟨.compressor, .shed⟩ ∈ t.rsv.ladder)) ∧
          t.cool.stopPending = false ∧
          t.cool.minOff = 180000 ∧ t.cool.sinceOff = 0 ∧
          t.cool.state = (if t.set.coolingEnabled ∧ coolingFitted t then .minOff else .off) ∧
          (t.cool.state = .minOff → t.cool.offLeft = 180000) ∧ t.cool.failures = 0 ∧ t.cool.fault = .none ∧
          t.cool.step = .none ∧ t.cool.cspd = 0 ∧ t.cool.on = t.set.coolingEnabled ∧
          t.cool.setpoint = t.set.coolingSetpoint ∧
          t.cool.fallback = (s.meas.tsf.validity == .fault) ∧ t.cool.held = (coolingFitted t && holding s) ∧
          t.cool.lidSets = (if coolingFitted t ∧ s.meas.lid.level then some 0 else none) ∧
          t.cool.lidReported = false ∧
          (let re := lockoutOf t.set.heaterState
           t.htr.state = (if s.htr.state = .lockout ∨ re.flag then .lockout else .off) ∧
             t.htr.lockout =
               (if re.flag then { s.htr.lockout with flag := true, cause := re.cause } else s.htr.lockout)) ∧
          (s.sto.stored.heaterState.good .heaterState = false →
            t.htr.state = .lockout ∧
              t.htr.lockout = { s.htr.lockout with flag := true, cause := some .store }) ∧
          t.htr.runTimer = .absent ∧ t.htr.nextStroke = none ∧ t.htr.purge = none ∧ t.htr.peff = 0 ∧
          t.htr.stage = 1 ∧ t.htr.flame = false ∧ t.htr.mode = s.htr.mode ∧ t.htr.target = s.htr.target ∧
          t.htr.fixedStage = s.htr.fixedStage ∧
          (t.htr.state = .off ∨ t.htr.state = .lockout) ∧ (s.htr.state = .lockout → t.htr.state = .lockout)

end
end

