-- ==== Sys2Proof/Laws/Table.lean ====
section
/-! SUPPORT. The timer table as a list: what its operations do to its entries, its ids and its order (R128). -/

namespace Sys2Proof.Machine

/-- `Entry.before` decides the order of R128. -/
theorem before_iff (a b : Entry) : a.before b = true ↔ entryPrecedes a b := by
  unfold Entry.before entryPrecedes
  cases a.due <;> cases b.due <;> simp

/-- The order of R128 is transitive. -/
theorem entryPrecedes_trans {a b c : Entry} (h : entryPrecedes a b) (k : entryPrecedes b c) : entryPrecedes a c := by
  unfold entryPrecedes at *
  cases ha : a.due <;> cases hb : b.due <;> cases hc : c.due <;> simp_all <;> omega

/-- Of two entries with different ids one stands before the other. -/
theorem entryPrecedes_total {a b : Entry} (h : a.id ≠ b.id) (k : ¬entryPrecedes a b) : entryPrecedes b a := by
  unfold entryPrecedes at *
  cases ha : a.due <;> cases hb : b.due <;> simp_all <;> omega

/-- An insertion adds the entry and moves none of the others. -/
theorem insertEntry_perm (e : Entry) (l : List Entry) : (insertEntry e l).Perm (e :: l) := by
  induction l with
  | nil => exact .refl _
  | cons x l ih =>
    unfold insertEntry; split
    · exact .refl _
    · exact (ih.cons x).trans (.swap e x l)

theorem mem_insertEntry {e x : Entry} {l : List Entry} : x ∈ insertEntry e l ↔ x = e ∨ x ∈ l := by
  rw [(insertEntry_perm e l).mem_iff, List.mem_cons]

theorem length_insertEntry (e : Entry) (l : List Entry) : (insertEntry e l).length = l.length + 1 :=
  (insertEntry_perm e l).length_eq

/-- An entry with a new id takes its place in an ordered table. -/
theorem insertEntry_ordered {e : Entry} {l : List Entry} (h : l.Pairwise entryPrecedes) (k : ∀ x ∈ l, x.id ≠ e.id) :
    (insertEntry e l).Pairwise entryPrecedes := by
  induction l with
  | nil => exact List.pairwise_singleton ..
  | cons x l ih =>
    rw [List.pairwise_cons] at h
    unfold insertEntry; split
    · next hb =>
      have hx := (before_iff e x).mp hb
      exact List.pairwise_cons.mpr
        ⟨fun y hy => (List.mem_cons.mp hy).elim (· ▸ hx) fun hy => entryPrecedes_trans hx (h.1 y hy),
          List.pairwise_cons.mpr h⟩
    · next hb =>
      have hx : entryPrecedes x e :=
        entryPrecedes_total (k x (List.mem_cons_self ..)).symm fun hp => hb ((before_iff e x).mpr hp)
      refine List.pairwise_cons.mpr ⟨fun y hy => ?_, ih h.2 fun y hy => k y (List.mem_cons_of_mem _ hy)⟩
      exact (mem_insertEntry.mp hy).elim (· ▸ hx) (h.1 y)

/-- A table put in order holds the same entries. -/
theorem orderEntries_perm (l : List Entry) : (orderEntries l).Perm l := by
  induction l with
  | nil => exact .refl _
  | cons x l ih => exact (insertEntry_perm x (orderEntries l)).trans (ih.cons x)

theorem mem_orderEntries {x : Entry} {l : List Entry} : x ∈ orderEntries l ↔ x ∈ l := (orderEntries_perm l).mem_iff

theorem length_orderEntries (l : List Entry) : (orderEntries l).length = l.length := (orderEntries_perm l).length_eq

/-- A table without two like ids put in order is ordered. -/
theorem orderEntries_ordered {l : List Entry} (h : (l.map (·.id)).Nodup) :
    (orderEntries l).Pairwise entryPrecedes := by
  induction l with
  | nil => exact .nil
  | cons x l ih =>
    rw [List.map_cons, List.nodup_cons] at h
    refine insertEntry_ordered (ih h.2) fun y hy hxy => h.1 ?_
    exact List.mem_map.mpr ⟨y, mem_orderEntries.mp hy, hxy⟩

/-- A removal takes exactly the entry with the id. -/
theorem mem_remove {t : Timer} {id : Nat} {x : Entry} : x ∈ (t.remove id).table ↔ x ∈ t.table ∧ x.id ≠ id := by
  simp [Timer.remove, List.mem_filter]

theorem length_remove_le (t : Timer) (id : Nat) : (t.remove id).table.length ≤ t.table.length :=
  List.length_filter_le ..

theorem remove_ordered {t : Timer} (id : Nat) (h : t.table.Pairwise entryPrecedes) :
    (t.remove id).table.Pairwise entryPrecedes := h.sublist List.filter_sublist

theorem remove_nodup {t : Timer} (id : Nat) (h : (t.table.map (·.id)).Nodup) :
    ((t.remove id).table.map (·.id)).Nodup := h.sublist (List.filter_sublist.map _)

/-- A put replaces the entry with the id, or adds it. -/
theorem mem_put {t : Timer} {e x : Entry} : x ∈ (t.put e).table ↔ x = e ∨ x ∈ t.table ∧ x.id ≠ e.id := by
  rw [Timer.put, mem_insertEntry, mem_remove]

theorem put_ordered {t : Timer} (e : Entry) (h : t.table.Pairwise entryPrecedes) :
    (t.put e).table.Pairwise entryPrecedes :=
  insertEntry_ordered (remove_ordered _ h) fun _ hx => (mem_remove.mp hx).2

theorem put_nodup {t : Timer} (e : Entry) (h : (t.table.map (·.id)).Nodup) :
    ((t.put e).table.map (·.id)).Nodup := by
  have hp : ((t.put e).table.map (·.id)).Perm (e.id :: (t.remove e.id).table.map (·.id)) :=
    (insertEntry_perm e (t.remove e.id).table).map _
  rw [hp.nodup_iff, List.nodup_cons]
  refine ⟨fun hm => ?_, remove_nodup _ h⟩
  obtain ⟨y, hy, hid⟩ := List.mem_map.mp hm
  exact (mem_remove.mp hy).2 hid

/-- A put adds at most one entry. -/
theorem length_put_le (t : Timer) (e : Entry) : (t.put e).table.length ≤ t.table.length + 1 := by
  rw [Timer.put, length_insertEntry]
  exact Nat.succ_le_succ (length_remove_le ..)

/-- A put of an id that the table holds does not lengthen it. -/
theorem length_put_of_mem {t : Timer} {e x : Entry} (h : x ∈ t.table) (k : x.id = e.id) :
    (t.put e).table.length ≤ t.table.length := by
  rw [Timer.put, length_insertEntry]
  refine Nat.succ_le_of_lt (List.length_filter_lt_length_iff_exists.mpr ⟨x, h, ?_⟩)
  simp [k]

/-! ### The entry with an id -/

/-- A search does not see an entry that it does not match. -/
theorem find_insertEntry (e : Entry) (p : Entry → Bool) (l : List Entry) (h : p e = false) :
    (insertEntry e l).find? p = l.find? p := by
  induction l with
  | nil => simp [insertEntry, h]
  | cons x r ih =>
    simp only [insertEntry]
    split
    · simp [h]
    · simp only [List.find?_cons, ih]

/-- A search that matches the new entry alone finds it. -/
theorem find_insertEntry_self (e : Entry) (p : Entry → Bool) (l : List Entry) (h : p e = true)
    (k : ∀ x ∈ l, p x = false) :
    (insertEntry e l).find? p = some e := by
  induction l with
  | nil => simp [insertEntry, h]
  | cons x r ih =>
    have hx := k x (by simp)
    simp only [insertEntry]
    split
    · simp [h]
    · simp only [List.find?_cons, hx]
      exact ih fun y hy => k y (by simp [hy])

/-- A removed id is not found. -/
@[simp] theorem find_remove_self (t : Timer) (id : Nat) : (t.remove id).find id = none := by
  simp [Timer.find, Timer.remove]

/-- A removal leaves the entry of every other id. -/
theorem find_remove_ne (t : Timer) {id n : Nat} (h : n ≠ id) : (t.remove id).find n = t.find n := by
  simp only [Timer.find, Timer.remove]
  rw [List.find?_filter]
  congr 1; funext e
  by_cases g : e.id = n
  · simp [g, h]
  · simp [g]

/-- A put entry is found under its id. -/
@[simp] theorem find_put_self (t : Timer) (e : Entry) : (t.put e).find e.id = some e := by
  unfold Timer.put Timer.find
  refine find_insertEntry_self e _ _ (by simp) fun x hx => ?_
  simp [Timer.remove] at hx; simpa using hx.2

/-- A put leaves the entry of every other id. -/
theorem find_put_ne (t : Timer) (e : Entry) {n : Nat} (h : n ≠ e.id) : (t.put e).find n = t.find n := by
  rw [← find_remove_ne t h]
  unfold Timer.put Timer.find
  exact find_insertEntry e _ _ (by simpa using fun g => h g.symm)

/-- A found entry has the id looked for. -/
theorem find_id {t : Timer} {id : Nat} {e : Entry} (h : t.find id = some e) : e.id = id := by
  simpa using List.find?_some h

/-- A found entry put back with another due time is found with it. -/
theorem find_put_due {t : Timer} {id : Nat} {e : Entry} (h : t.find id = some e) (due : Option Nat) :
    (t.put { e with due := due }).find id = some { e with due := due } :=
  find_id h ▸ find_put_self t { e with due := due }

end Sys2Proof.Machine
end

