-- ==== Sys2Proof/Laws/State.lean ====
section
/-! SUPPORT. What each named update of the state leaves and what it writes, field by field, so that no proof unfolds a
record update. -/

namespace Sys2Proof.Machine

/-! ### Containers -/

@[simp] theorem PerConsumer.get_set_self {α : Type} (p : PerConsumer α) (c : Consumer) (v : α) :
    (p.set c v).get c = v := by cases c <;> rfl

@[simp] theorem PerConsumer.get_set_ne {α : Type} (p : PerConsumer α) {c d : Consumer} (v : α) (h : d ≠ c) :
    (p.set c v).get d = p.get d := by
  cases c <;> cases d <;> first | rfl | exact absurd rfl h

@[simp] theorem PerConsumer.get_mapC {α β : Type} (p : PerConsumer α) (f : Consumer → α → β) (c : Consumer) :
    (p.mapC f).get c = f c (p.get c) := by cases c <;> rfl

@[simp] theorem PerLight.get_set_self {α : Type} (p : PerLight α) (l : Light) (v : α) : (p.set l v).get l = v := by
  cases l <;> rfl

@[simp] theorem PerLight.get_set_ne {α : Type} (p : PerLight α) {l m : Light} (v : α) (h : m ≠ l) :
    (p.set l v).get m = p.get m := by
  cases l <;> cases m <;> first | rfl | exact absurd rfl h

@[simp] theorem PerBlock.get_set_self {α : Type} (p : PerBlock α) (b : Block) (v : α) : (p.set b v).get b = v := by
  cases b <;> rfl

@[simp] theorem PerBlock.get_set_ne {α : Type} (p : PerBlock α) {b d : Block} (v : α) (h : d ≠ b) :
    (p.set b v).get d = p.get d := by
  cases b <;> cases d <;> first | rfl | exact absurd rfl h

@[simp] theorem PerBlock.get_ofFun {α : Type} (f : Block → α) (b : Block) : (PerBlock.ofFun f).get b = f b := by
  cases b <;> rfl

@[simp] theorem keyGet_keySet_self {α : Type} (p : PerKey α) (k : Key) (v : α) : keyGet (keySet p k v) k = v := by
  cases k <;> rfl

@[simp] theorem keyGet_keySet_ne {α : Type} (p : PerKey α) {k m : Key} (v : α) (h : m ≠ k) :
    keyGet (keySet p k v) m = keyGet p m := by
  cases k <;> cases m <;> first | rfl | exact absurd rfl h

@[simp] theorem Meas.sensor_setSensor_self (m : Meas) (x : Sensor) (v : SensorState) :
    (m.setSensor x v).sensor x = v := by cases x <;> rfl

@[simp] theorem Meas.sensor_setSensor_ne (m : Meas) {x y : Sensor} (v : SensorState) (h : y ≠ x) :
    (m.setSensor x v).sensor y = m.sensor y := by
  cases x <;> cases y <;> first | rfl | exact absurd rfl h

/-- The records of a map are the records of its channels. -/
@[simp] theorem recsOf_get (m : List (Option Consumer)) (h : Bool) (c : Consumer) :
    (recsOf m h).get c = ChanRec.start (channelsOf c m 0) h := by cases c <;> rfl

/-! ### The views of a consumer, a light, a key -/

/-! #### `State.setChan` -/

@[simp] theorem State.setChan_sys (s : State) (c : Consumer) (r : ChanRec) :
    (s.setChan c r).sys = s.sys := rfl

@[simp] theorem State.setChan_meas (s : State) (c : Consumer) (r : ChanRec) :
    (s.setChan c r).meas = s.meas := rfl

@[simp] theorem State.setChan_out (s : State) (c : Consumer) (r : ChanRec) :
    (s.setChan c r).out = { s.out with recs := s.out.recs.set c r } := rfl

@[simp] theorem State.setChan_htr (s : State) (c : Consumer) (r : ChanRec) :
    (s.setChan c r).htr = s.htr := rfl

@[simp] theorem State.setChan_cool (s : State) (c : Consumer) (r : ChanRec) :
    (s.setChan c r).cool = s.cool := rfl

@[simp] theorem State.setChan_lgt (s : State) (c : Consumer) (r : ChanRec) :
    (s.setChan c r).lgt = s.lgt := rfl

@[simp] theorem State.setChan_duty (s : State) (c : Consumer) (r : ChanRec) :
    (s.setChan c r).duty = s.duty := rfl

@[simp] theorem State.setChan_tmr (s : State) (c : Consumer) (r : ChanRec) :
    (s.setChan c r).tmr = s.tmr := rfl

@[simp] theorem State.setChan_rsv (s : State) (c : Consumer) (r : ChanRec) :
    (s.setChan c r).rsv = s.rsv := rfl

@[simp] theorem State.setChan_lnk (s : State) (c : Consumer) (r : ChanRec) :
    (s.setChan c r).lnk = s.lnk := rfl

@[simp] theorem State.setChan_ntq (s : State) (c : Consumer) (r : ChanRec) :
    (s.setChan c r).ntq = s.ntq := rfl

@[simp] theorem State.setChan_sto (s : State) (c : Consumer) (r : ChanRec) :
    (s.setChan c r).sto = s.sto := rfl

@[simp] theorem State.setChan_free (s : State) (c : Consumer) (r : ChanRec) :
    (s.setChan c r).free = s.free := rfl

@[simp] theorem State.setChan_pending (s : State) (c : Consumer) (r : ChanRec) :
    (s.setChan c r).pending = s.pending := rfl

/-! #### `State.setLight` -/

@[simp] theorem State.setLight_sys (s : State) (l : Light) (r : LightRec) :
    (s.setLight l r).sys = s.sys := rfl

@[simp] theorem State.setLight_meas (s : State) (l : Light) (r : LightRec) :
    (s.setLight l r).meas = s.meas := rfl

@[simp] theorem State.setLight_out (s : State) (l : Light) (r : LightRec) :
    (s.setLight l r).out = s.out := rfl

@[simp] theorem State.setLight_htr (s : State) (l : Light) (r : LightRec) :
    (s.setLight l r).htr = s.htr := rfl

@[simp] theorem State.setLight_cool (s : State) (l : Light) (r : LightRec) :
    (s.setLight l r).cool = s.cool := rfl

@[simp] theorem State.setLight_lgt (s : State) (l : Light) (r : LightRec) :
    (s.setLight l r).lgt = { s.lgt with recs := s.lgt.recs.set l r } := rfl

@[simp] theorem State.setLight_duty (s : State) (l : Light) (r : LightRec) :
    (s.setLight l r).duty = s.duty := rfl

@[simp] theorem State.setLight_tmr (s : State) (l : Light) (r : LightRec) :
    (s.setLight l r).tmr = s.tmr := rfl

@[simp] theorem State.setLight_rsv (s : State) (l : Light) (r : LightRec) :
    (s.setLight l r).rsv = s.rsv := rfl

@[simp] theorem State.setLight_lnk (s : State) (l : Light) (r : LightRec) :
    (s.setLight l r).lnk = s.lnk := rfl

@[simp] theorem State.setLight_ntq (s : State) (l : Light) (r : LightRec) :
    (s.setLight l r).ntq = s.ntq := rfl

@[simp] theorem State.setLight_sto (s : State) (l : Light) (r : LightRec) :
    (s.setLight l r).sto = s.sto := rfl

@[simp] theorem State.setLight_free (s : State) (l : Light) (r : LightRec) :
    (s.setLight l r).free = s.free := rfl

@[simp] theorem State.setLight_pending (s : State) (l : Light) (r : LightRec) :
    (s.setLight l r).pending = s.pending := rfl

/-! #### `State.setStroke` -/

@[simp] theorem State.setStroke_sys (s : State) (k : Stroke) :
    (s.setStroke k).sys = s.sys := rfl

@[simp] theorem State.setStroke_meas (s : State) (k : Stroke) :
    (s.setStroke k).meas = s.meas := rfl

@[simp] theorem State.setStroke_out (s : State) (k : Stroke) :
    (s.setStroke k).out = { s.out with stroke := k } := rfl

@[simp] theorem State.setStroke_htr (s : State) (k : Stroke) :
    (s.setStroke k).htr = s.htr := rfl

@[simp] theorem State.setStroke_cool (s : State) (k : Stroke) :
    (s.setStroke k).cool = s.cool := rfl

@[simp] theorem State.setStroke_lgt (s : State) (k : Stroke) :
    (s.setStroke k).lgt = s.lgt := rfl

@[simp] theorem State.setStroke_duty (s : State) (k : Stroke) :
    (s.setStroke k).duty = s.duty := rfl

@[simp] theorem State.setStroke_tmr (s : State) (k : Stroke) :
    (s.setStroke k).tmr = s.tmr := rfl

@[simp] theorem State.setStroke_rsv (s : State) (k : Stroke) :
    (s.setStroke k).rsv = s.rsv := rfl

@[simp] theorem State.setStroke_lnk (s : State) (k : Stroke) :
    (s.setStroke k).lnk = s.lnk := rfl

@[simp] theorem State.setStroke_ntq (s : State) (k : Stroke) :
    (s.setStroke k).ntq = s.ntq := rfl

@[simp] theorem State.setStroke_sto (s : State) (k : Stroke) :
    (s.setStroke k).sto = s.sto := rfl

@[simp] theorem State.setStroke_free (s : State) (k : Stroke) :
    (s.setStroke k).free = s.free := rfl

@[simp] theorem State.setStroke_pending (s : State) (k : Stroke) :
    (s.setStroke k).pending = s.pending := rfl

/-! #### `State.setKey` -/

@[simp] theorem State.setKey_sys (s : State) (k : Key) (v : KeyState) :
    (s.setKey k v).sys = s.sys := rfl

@[simp] theorem State.setKey_meas (s : State) (k : Key) (v : KeyState) :
    (s.setKey k v).meas = { s.meas with keys := keySet s.meas.keys k v } := rfl

@[simp] theorem State.setKey_out (s : State) (k : Key) (v : KeyState) :
    (s.setKey k v).out = s.out := rfl

@[simp] theorem State.setKey_htr (s : State) (k : Key) (v : KeyState) :
    (s.setKey k v).htr = s.htr := rfl

@[simp] theorem State.setKey_cool (s : State) (k : Key) (v : KeyState) :
    (s.setKey k v).cool = s.cool := rfl

@[simp] theorem State.setKey_lgt (s : State) (k : Key) (v : KeyState) :
    (s.setKey k v).lgt = s.lgt := rfl

@[simp] theorem State.setKey_duty (s : State) (k : Key) (v : KeyState) :
    (s.setKey k v).duty = s.duty := rfl

@[simp] theorem State.setKey_tmr (s : State) (k : Key) (v : KeyState) :
    (s.setKey k v).tmr = s.tmr := rfl

@[simp] theorem State.setKey_rsv (s : State) (k : Key) (v : KeyState) :
    (s.setKey k v).rsv = s.rsv := rfl

@[simp] theorem State.setKey_lnk (s : State) (k : Key) (v : KeyState) :
    (s.setKey k v).lnk = s.lnk := rfl

@[simp] theorem State.setKey_ntq (s : State) (k : Key) (v : KeyState) :
    (s.setKey k v).ntq = s.ntq := rfl

@[simp] theorem State.setKey_sto (s : State) (k : Key) (v : KeyState) :
    (s.setKey k v).sto = s.sto := rfl

@[simp] theorem State.setKey_free (s : State) (k : Key) (v : KeyState) :
    (s.setKey k v).free = s.free := rfl

@[simp] theorem State.setKey_pending (s : State) (k : Key) (v : KeyState) :
    (s.setKey k v).pending = s.pending := rfl

/-! #### `State.withRx` -/

@[simp] theorem State.withRx_sys (s : State) (x : Rx) :
    (s.withRx x).sys = s.sys := rfl

@[simp] theorem State.withRx_meas (s : State) (x : Rx) :
    (s.withRx x).meas = s.meas := rfl

@[simp] theorem State.withRx_out (s : State) (x : Rx) :
    (s.withRx x).out = s.out := rfl

@[simp] theorem State.withRx_htr (s : State) (x : Rx) :
    (s.withRx x).htr = s.htr := rfl

@[simp] theorem State.withRx_cool (s : State) (x : Rx) :
    (s.withRx x).cool = s.cool := rfl

@[simp] theorem State.withRx_lgt (s : State) (x : Rx) :
    (s.withRx x).lgt = s.lgt := rfl

@[simp] theorem State.withRx_duty (s : State) (x : Rx) :
    (s.withRx x).duty = s.duty := rfl

@[simp] theorem State.withRx_tmr (s : State) (x : Rx) :
    (s.withRx x).tmr = s.tmr := rfl

@[simp] theorem State.withRx_rsv (s : State) (x : Rx) :
    (s.withRx x).rsv = s.rsv := rfl

@[simp] theorem State.withRx_lnk (s : State) (x : Rx) :
    (s.withRx x).lnk = { s.lnk with rx := x } := rfl

@[simp] theorem State.withRx_ntq (s : State) (x : Rx) :
    (s.withRx x).ntq = s.ntq := rfl

@[simp] theorem State.withRx_sto (s : State) (x : Rx) :
    (s.withRx x).sto = s.sto := rfl

@[simp] theorem State.withRx_free (s : State) (x : Rx) :
    (s.withRx x).free = s.free := rfl

@[simp] theorem State.withRx_pending (s : State) (x : Rx) :
    (s.withRx x).pending = s.pending := rfl

/-! #### `post` -/

@[simp] theorem post_sys (k : Notice) (d : Nat) (v : Int) (s : State) :
    (post k d v s).sys = s.sys := rfl

@[simp] theorem post_meas (k : Notice) (d : Nat) (v : Int) (s : State) :
    (post k d v s).meas = s.meas := rfl

@[simp] theorem post_out (k : Notice) (d : Nat) (v : Int) (s : State) :
    (post k d v s).out = s.out := rfl

@[simp] theorem post_htr (k : Notice) (d : Nat) (v : Int) (s : State) :
    (post k d v s).htr = s.htr := rfl

@[simp] theorem post_cool (k : Notice) (d : Nat) (v : Int) (s : State) :
    (post k d v s).cool = s.cool := rfl

@[simp] theorem post_lgt (k : Notice) (d : Nat) (v : Int) (s : State) :
    (post k d v s).lgt = s.lgt := rfl

@[simp] theorem post_duty (k : Notice) (d : Nat) (v : Int) (s : State) :
    (post k d v s).duty = s.duty := rfl

@[simp] theorem post_tmr (k : Notice) (d : Nat) (v : Int) (s : State) :
    (post k d v s).tmr = s.tmr := rfl

@[simp] theorem post_rsv (k : Notice) (d : Nat) (v : Int) (s : State) :
    (post k d v s).rsv = s.rsv := rfl

@[simp] theorem post_lnk (k : Notice) (d : Nat) (v : Int) (s : State) :
    (post k d v s).lnk = s.lnk := rfl

@[simp] theorem post_ntq (k : Notice) (d : Nat) (v : Int) (s : State) :
    (post k d v s).ntq = s.ntq.post s.tmr.seconds k d v := rfl

@[simp] theorem post_sto (k : Notice) (d : Nat) (v : Int) (s : State) :
    (post k d v s).sto = s.sto := rfl

@[simp] theorem post_free (k : Notice) (d : Nat) (v : Int) (s : State) :
    (post k d v s).free = s.free := rfl

@[simp] theorem post_pending (k : Notice) (d : Nat) (v : Int) (s : State) :
    (post k d v s).pending = s.pending := rfl

/-! #### `demand` -/

@[simp] theorem demand_sys (c : Consumer) (m : Mode) (v : Option Nat) (s : State) :
    (demand c m v s).sys = s.sys := rfl

@[simp] theorem demand_meas (c : Consumer) (m : Mode) (v : Option Nat) (s : State) :
    (demand c m v s).meas = s.meas := rfl

@[simp] theorem demand_out (c : Consumer) (m : Mode) (v : Option Nat) (s : State) :
    (demand c m v s).out = { s.out with
      recs := s.out.recs.set c ((s.chan c).demanded m v)
      stroke := if c = .pump then s.out.stroke.demanded (s.chan .pump).mode m else s.out.stroke } := rfl

@[simp] theorem demand_htr (c : Consumer) (m : Mode) (v : Option Nat) (s : State) :
    (demand c m v s).htr = s.htr := rfl

@[simp] theorem demand_cool (c : Consumer) (m : Mode) (v : Option Nat) (s : State) :
    (demand c m v s).cool = s.cool := rfl

@[simp] theorem demand_lgt (c : Consumer) (m : Mode) (v : Option Nat) (s : State) :
    (demand c m v s).lgt = s.lgt := rfl

@[simp] theorem demand_duty (c : Consumer) (m : Mode) (v : Option Nat) (s : State) :
    (demand c m v s).duty = s.duty := rfl

@[simp] theorem demand_tmr (c : Consumer) (m : Mode) (v : Option Nat) (s : State) :
    (demand c m v s).tmr = s.tmr := rfl

@[simp] theorem demand_rsv (c : Consumer) (m : Mode) (v : Option Nat) (s : State) :
    (demand c m v s).rsv = s.rsv := rfl

@[simp] theorem demand_lnk (c : Consumer) (m : Mode) (v : Option Nat) (s : State) :
    (demand c m v s).lnk = s.lnk := rfl

@[simp] theorem demand_ntq (c : Consumer) (m : Mode) (v : Option Nat) (s : State) :
    (demand c m v s).ntq = s.ntq := rfl

@[simp] theorem demand_sto (c : Consumer) (m : Mode) (v : Option Nat) (s : State) :
    (demand c m v s).sto = s.sto := rfl

@[simp] theorem demand_free (c : Consumer) (m : Mode) (v : Option Nat) (s : State) :
    (demand c m v s).free = s.free := rfl

@[simp] theorem demand_pending (c : Consumer) (m : Mode) (v : Option Nat) (s : State) :
    (demand c m v s).pending = s.pending := rfl

/-! #### `setValidity` -/

@[simp] theorem setValidity_sys (x : Sensor) (v : Validity) (s : State) :
    (setValidity x v s).sys = s.sys := rfl

@[simp] theorem setValidity_meas (x : Sensor) (v : Validity) (s : State) :
    (setValidity x v s).meas = s.meas.setSensor x { s.meas.sensor x with validity := v } := rfl

@[simp] theorem setValidity_out (x : Sensor) (v : Validity) (s : State) :
    (setValidity x v s).out = s.out := rfl

@[simp] theorem setValidity_htr (x : Sensor) (v : Validity) (s : State) :
    (setValidity x v s).htr = s.htr := rfl

@[simp] theorem setValidity_cool (x : Sensor) (v : Validity) (s : State) :
    (setValidity x v s).cool = s.cool := rfl

@[simp] theorem setValidity_lgt (x : Sensor) (v : Validity) (s : State) :
    (setValidity x v s).lgt = s.lgt := rfl

@[simp] theorem setValidity_duty (x : Sensor) (v : Validity) (s : State) :
    (setValidity x v s).duty = s.duty := rfl

@[simp] theorem setValidity_tmr (x : Sensor) (v : Validity) (s : State) :
    (setValidity x v s).tmr = s.tmr := rfl

@[simp] theorem setValidity_rsv (x : Sensor) (v : Validity) (s : State) :
    (setValidity x v s).rsv = s.rsv := rfl

@[simp] theorem setValidity_lnk (x : Sensor) (v : Validity) (s : State) :
    (setValidity x v s).lnk = s.lnk := rfl

@[simp] theorem setValidity_ntq (x : Sensor) (v : Validity) (s : State) :
    (setValidity x v s).ntq = s.ntq := rfl

@[simp] theorem setValidity_sto (x : Sensor) (v : Validity) (s : State) :
    (setValidity x v s).sto = s.sto := rfl

@[simp] theorem setValidity_free (x : Sensor) (v : Validity) (s : State) :
    (setValidity x v s).free = s.free := rfl

@[simp] theorem setValidity_pending (x : Sensor) (v : Validity) (s : State) :
    (setValidity x v s).pending = s.pending := rfl

/-! #### `switchOff` -/

@[simp] theorem switchOff_sys (s : State) :
    (switchOff s).sys = s.sys := rfl

@[simp] theorem switchOff_meas (s : State) :
    (switchOff s).meas = s.meas := rfl

@[simp] theorem switchOff_out (s : State) :
    (switchOff s).out = s.out := rfl

@[simp] theorem switchOff_htr (s : State) :
    (switchOff s).htr = s.htr := rfl

@[simp] theorem switchOff_cool (s : State) :
    (switchOff s).cool = { s.cool with minOff := 180000, sinceOff := 0 } := rfl

@[simp] theorem switchOff_lgt (s : State) :
    (switchOff s).lgt = s.lgt := rfl

@[simp] theorem switchOff_duty (s : State) :
    (switchOff s).duty = s.duty := rfl

@[simp] theorem switchOff_tmr (s : State) :
    (switchOff s).tmr = s.tmr := rfl

@[simp] theorem switchOff_rsv (s : State) :
    (switchOff s).rsv = s.rsv := rfl

@[simp] theorem switchOff_lnk (s : State) :
    (switchOff s).lnk = s.lnk := rfl

@[simp] theorem switchOff_ntq (s : State) :
    (switchOff s).ntq = s.ntq := rfl

@[simp] theorem switchOff_sto (s : State) :
    (switchOff s).sto = s.sto := rfl

@[simp] theorem switchOff_free (s : State) :
    (switchOff s).free = s.free := rfl

@[simp] theorem switchOff_pending (s : State) :
    (switchOff s).pending = s.pending := rfl

/-! #### Views after an update -/

@[simp] theorem State.chan_setChan_self (s : State) (c : Consumer) (r : ChanRec) : (s.setChan c r).chan c = r :=
  PerConsumer.get_set_self _ c r

@[simp] theorem State.chan_setChan_ne (s : State) {c d : Consumer} (r : ChanRec) (h : d ≠ c) :
    (s.setChan c r).chan d = s.chan d := PerConsumer.get_set_ne _ r h

@[simp] theorem State.chan_setStroke (s : State) (k : Stroke) (c : Consumer) : (s.setStroke k).chan c = s.chan c := rfl

@[simp] theorem State.light_setLight_self (s : State) (l : Light) (r : LightRec) : (s.setLight l r).light l = r :=
  PerLight.get_set_self _ l r

@[simp] theorem State.light_setLight_ne (s : State) {l m : Light} (r : LightRec) (h : m ≠ l) :
    (s.setLight l r).light m = s.light m := PerLight.get_set_ne _ r h

@[simp] theorem State.key_setKey_self (s : State) (k : Key) (v : KeyState) : (s.setKey k v).key k = v :=
  keyGet_keySet_self _ k v

@[simp] theorem State.key_setKey_ne (s : State) {k m : Key} (v : KeyState) (h : m ≠ k) :
    (s.setKey k v).key m = s.key m := keyGet_keySet_ne _ v h

@[simp] theorem chan_post (k : Notice) (d : Nat) (v : Int) (s : State) (c : Consumer) :
    (post k d v s).chan c = s.chan c := rfl

@[simp] theorem light_post (k : Notice) (d : Nat) (v : Int) (s : State) (l : Light) :
    (post k d v s).light l = s.light l := rfl

@[simp] theorem chan_demand_self (c : Consumer) (m : Mode) (v : Option Nat) (s : State) :
    (demand c m v s).chan c = (s.chan c).demanded m v := PerConsumer.get_set_self _ c _

@[simp] theorem chan_demand_ne {c d : Consumer} (m : Mode) (v : Option Nat) (s : State) (h : d ≠ c) :
    (demand c m v s).chan d = s.chan d := PerConsumer.get_set_ne _ _ h

@[simp] theorem light_demand (c : Consumer) (m : Mode) (v : Option Nat) (s : State) (l : Light) :
    (demand c m v s).light l = s.light l := rfl

@[simp] theorem chan_setLight (s : State) (l : Light) (r : LightRec) (c : Consumer) :
    (s.setLight l r).chan c = s.chan c := rfl

@[simp] theorem light_setChan (s : State) (c : Consumer) (r : ChanRec) (l : Light) :
    (s.setChan c r).light l = s.light l := rfl

end Sys2Proof.Machine
end

