-- ==== Sys2Proof/Laws/Frame.lean ====
section
/-! SUPPORT. Frames: which components of the state an operation may change. One lemma for each shared operation of the
lights, the heater and the cooling controller. -/

namespace Sys2Proof.Machine

set_option Elab.async false

/-- The components of the state. -/
inductive Comp where
  | sys | meas | out | htr | cool | lgt | duty | tmr | rsv | lnk | ntq | sto | free | pending
  deriving DecidableEq

/-- The component is the same in two states. -/
def Comp.same (p : Comp) (s t : State) : Prop :=
  match p with
  | .sys => t.sys = s.sys | .meas => t.meas = s.meas | .out => t.out = s.out | .htr => t.htr = s.htr
  | .cool => t.cool = s.cool | .lgt => t.lgt = s.lgt | .duty => t.duty = s.duty | .tmr => t.tmr = s.tmr
  | .rsv => t.rsv = s.rsv | .lnk => t.lnk = s.lnk | .ntq => t.ntq = s.ntq | .sto => t.sto = s.sto
  | .free => t.free = s.free | .pending => t.pending = s.pending

/-- Every component outside the list is the same in `t` as in `s`. -/
structure ChangesOnly (ps : List Comp) (s t : State) : Prop where
  same : ∀ p, p ∉ ps → p.same s t

theorem ChangesOnly.refl {ps : List Comp} (s : State) : ChangesOnly ps s s := ⟨fun p _ => by cases p <;> rfl⟩

theorem ChangesOnly.mono {ps qs : List Comp} {s t : State} (h : ChangesOnly ps s t) (hs : ps ⊆ qs := by decide) : ChangesOnly qs s t :=
  ⟨fun p hp => h.same p fun hm => hp (hs hm)⟩

theorem ChangesOnly.trans {ps qs rs : List Comp} {s t u : State} (h : ChangesOnly ps s t) (g : ChangesOnly qs t u)
    (hp : ps ⊆ rs := by decide) (hq : qs ⊆ rs := by decide) : ChangesOnly rs s u := by
  refine ⟨fun p hn => ?_⟩
  have a := h.same p fun hm => hn (hp hm)
  have b := g.same p fun hm => hn (hq hm)
  cases p <;> exact Eq.trans b a

/-- Two steps under one frame. -/
theorem ChangesOnly.comp {ps : List Comp} {s t u : State} (h : ChangesOnly ps s t) (g : ChangesOnly ps t u) : ChangesOnly ps s u :=
  h.trans g (fun _ hm => hm) (fun _ hm => hm)

/-- A frame as a record update. -/
theorem ChangesOnly.eq {ps : List Comp} {s t : State} (h : ChangesOnly ps s t) :
    t =
      { sys := if Comp.sys ∈ ps then t.sys else s.sys
        meas := if Comp.meas ∈ ps then t.meas else s.meas
        out := if Comp.out ∈ ps then t.out else s.out
        htr := if Comp.htr ∈ ps then t.htr else s.htr
        cool := if Comp.cool ∈ ps then t.cool else s.cool
        lgt := if Comp.lgt ∈ ps then t.lgt else s.lgt
        duty := if Comp.duty ∈ ps then t.duty else s.duty
        tmr := if Comp.tmr ∈ ps then t.tmr else s.tmr
        rsv := if Comp.rsv ∈ ps then t.rsv else s.rsv
        lnk := if Comp.lnk ∈ ps then t.lnk else s.lnk
        ntq := if Comp.ntq ∈ ps then t.ntq else s.ntq
        sto := if Comp.sto ∈ ps then t.sto else s.sto
        free := if Comp.free ∈ ps then t.free else s.free
        pending := if Comp.pending ∈ ps then t.pending else s.pending } := by
  cases t
  congr 1 <;> (split <;> first | rfl | skip)
  all_goals first
    | exact h.same .sys ‹_› | exact h.same .meas ‹_› | exact h.same .out ‹_› | exact h.same .htr ‹_› | exact h.same .cool ‹_›
    | exact h.same .lgt ‹_› | exact h.same .duty ‹_› | exact h.same .tmr ‹_› | exact h.same .rsv ‹_› | exact h.same .lnk ‹_›
    | exact h.same .ntq ‹_› | exact h.same .sto ‹_› | exact h.same .free ‹_› | exact h.same .pending ‹_›

/-- A loop over a list keeps what each of its turns keeps. -/
theorem ChangesOnly.foldl {ps : List Comp} {α : Type} (f : State → α → State) (h : ∀ s a, ChangesOnly ps s (f s a)) (l : List α)
    (s : State) : ChangesOnly ps s (l.foldl f s) := by
  induction l generalizing s with
  | nil => exact .refl s
  | cons a l ih => exact (h s a).comp (ih _)

/-- An event that is not due changes nothing. -/
theorem whenDue_frame {ps : List Comp} {s : State} {f : State → State} (due : Bool) (h : ChangesOnly ps s (f s)) :
    ChangesOnly ps s (whenDue due s f) := by
  unfold whenDue; split
  · exact h
  · exact .refl s

/-! ### One component is replaced -/

theorem frame_sys (s : State) (x) : ChangesOnly [.sys] s { s with sys := x } :=
  ⟨fun p hp => by cases p <;> first | rfl | simp at hp⟩
theorem frame_meas (s : State) (x) : ChangesOnly [.meas] s { s with meas := x } :=
  ⟨fun p hp => by cases p <;> first | rfl | simp at hp⟩
theorem frame_out (s : State) (x) : ChangesOnly [.out] s { s with out := x } :=
  ⟨fun p hp => by cases p <;> first | rfl | simp at hp⟩
theorem frame_htr (s : State) (x) : ChangesOnly [.htr] s { s with htr := x } :=
  ⟨fun p hp => by cases p <;> first | rfl | simp at hp⟩
theorem frame_cool (s : State) (x) : ChangesOnly [.cool] s { s with cool := x } :=
  ⟨fun p hp => by cases p <;> first | rfl | simp at hp⟩
theorem frame_lgt (s : State) (x) : ChangesOnly [.lgt] s { s with lgt := x } :=
  ⟨fun p hp => by cases p <;> first | rfl | simp at hp⟩
theorem frame_duty (s : State) (x) : ChangesOnly [.duty] s { s with duty := x } :=
  ⟨fun p hp => by cases p <;> first | rfl | simp at hp⟩
theorem frame_tmr (s : State) (x) : ChangesOnly [.tmr] s { s with tmr := x } :=
  ⟨fun p hp => by cases p <;> first | rfl | simp at hp⟩
theorem frame_rsv (s : State) (x) : ChangesOnly [.rsv] s { s with rsv := x } :=
  ⟨fun p hp => by cases p <;> first | rfl | simp at hp⟩
theorem frame_lnk (s : State) (x) : ChangesOnly [.lnk] s { s with lnk := x } :=
  ⟨fun p hp => by cases p <;> first | rfl | simp at hp⟩
theorem frame_ntq (s : State) (x) : ChangesOnly [.ntq] s { s with ntq := x } :=
  ⟨fun p hp => by cases p <;> first | rfl | simp at hp⟩
theorem frame_sto (s : State) (x) : ChangesOnly [.sto] s { s with sto := x } :=
  ⟨fun p hp => by cases p <;> first | rfl | simp at hp⟩

theorem post_frame (k d v) (s : State) : ChangesOnly [.ntq] s (post k d v s) := frame_ntq s _
theorem setChan_frame (s : State) (c r) : ChangesOnly [.out] s (s.setChan c r) := frame_out s _
theorem setStroke_frame (s : State) (k) : ChangesOnly [.out] s (s.setStroke k) := frame_out s _
theorem setLight_frame (s : State) (l r) : ChangesOnly [.lgt] s (s.setLight l r) := frame_lgt s _
theorem setKey_frame (s : State) (k v) : ChangesOnly [.meas] s (s.setKey k v) := frame_meas s _
theorem demand_frame (c m v) (s : State) : ChangesOnly [.out] s (demand c m v s) := frame_out s _

theorem requestPartWrite_frame (s : State) : ChangesOnly [.sto] s (requestPartWrite s) := by
  unfold requestPartWrite; dsimp only; split <;> exact frame_sto s _

theorem withStretch_frame (b s : State) : ChangesOnly [.ntq] s (withStretch b s) := frame_ntq s _
theorem tickNtq_frame (s : State) : ChangesOnly [.ntq] s (tickNtq s) := frame_ntq s _

/-! ### Light unit -/

theorem writeLevel_frame (l) (s : State) : ChangesOnly [.out] s (writeLevel l s) := demand_frame ..

theorem refresh_frame (l) (s : State) : ChangesOnly [.lgt, .out] s (refresh l s) := by
  unfold refresh; dsimp only; split
  · exact .refl s
  · exact (setLight_frame ..).trans (writeLevel_frame ..)

theorem setSteady_frame (l v r) (s : State) : ChangesOnly [.lgt] s (setSteady l v r s) := setLight_frame ..
theorem postEnd_frame (l w p) (s : State) : ChangesOnly [.ntq] s (postEnd l w p s) := post_frame ..

theorem postEnds_frame (l w) (ps : List Program) (s : State) :
    ChangesOnly [.ntq] s (ps.foldl (fun s p => postEnd l w p s) s) := ChangesOnly.foldl _ (fun _ _ => postEnd_frame ..) ps s

theorem endPrograms_frame (l w) (s : State) : ChangesOnly [.lgt, .ntq] s (endPrograms l w s) := by
  unfold endPrograms; exact (setLight_frame ..).trans (postEnds_frame ..)

theorem showSteady_frame (l) (s : State) : ChangesOnly [.lgt] s (showSteady l s) := by
  unfold showSteady; split
  · exact setLight_frame ..
  · exact .refl s

theorem completeProgram_frame (l p) (s : State) : ChangesOnly [.lgt, .ntq] s (completeProgram l p s) := by
  unfold completeProgram; dsimp only; split <;> exact (postEnd_frame ..).trans (setLight_frame ..)

theorem stepEnd_frame (l a) (s : State) : ChangesOnly [.lgt, .ntq] s (stepEnd l a s) := by
  unfold stepEnd; split
  · exact (setLight_frame ..).mono
  · split
    · exact (setLight_frame ..).mono
    · exact completeProgram_frame ..

theorem partLeaves_frame (p l o) (s : State) : ChangesOnly [.lgt, .ntq] s (partLeaves p l o s) := by
  unfold partLeaves; dsimp only; split
  · exact (post_frame ..).trans (frame_lgt ..)
  · exact (post_frame ..).mono

theorem startPart_frame (p l) (s : State) : ChangesOnly [.lgt, .ntq] s (startPart p l s) := by
  unfold startPart; dsimp only; split
  · exact (setLight_frame ..).trans (postEnd_frame ..)
  · exact (setLight_frame ..).mono

theorem placePart_frame (p l) (s : State) : ChangesOnly [.lgt, .ntq] s (placePart p l s) := by
  unfold placePart; dsimp only
  repeat' split
  all_goals first
    | exact partLeaves_frame ..
    | exact startPart_frame ..
    | exact (startPart_frame ..).comp (partLeaves_frame ..)
    | exact (setLight_frame ..).mono
    | exact (setLight_frame ..).trans (partLeaves_frame ..)

theorem afterPart_frame (l) (s : State) : ChangesOnly [.lgt, .ntq] s (afterPart l s) := by
  unfold afterPart; dsimp only; split
  · exact (setLight_frame ..).trans (startPart_frame ..)
  · exact (setLight_frame ..).mono

theorem partEnd_frame (p l) (s : State) : ChangesOnly [.lgt, .ntq, .out] s (partEnd p l s) := by
  unfold partEnd
  exact ((setLight_frame ..).trans ((partLeaves_frame ..).comp (afterPart_frame ..)) (rs := [.lgt, .ntq])).trans
    (refresh_frame ..)

theorem requestAlert_frame (p) (s : State) : ChangesOnly [.lgt, .ntq] s (requestAlert p s) := by
  unfold requestAlert; split
  · exact (placePart_frame ..).comp (placePart_frame ..)
  · exact placePart_frame ..

theorem withdrawPart_frame (l) (s : State) : ChangesOnly [.lgt, .ntq] s (withdrawPart l s) := by
  unfold withdrawPart; dsimp only
  have h : ChangesOnly [.lgt, .ntq] s
      (if (s.light l).queued = some .wake then
        partLeaves .wake l .cancelled (s.setLight l { s.light l with queued := none }) else s) := by
    split
    · exact (setLight_frame ..).trans (partLeaves_frame ..)
    · exact .refl s
  split
  · split
    · exact h.comp ((partLeaves_frame ..).comp (afterPart_frame ..))
    · exact h
  · exact h

theorem withdrawWake_frame (s : State) : ChangesOnly [.lgt, .ntq] s (withdrawWake s) := by
  unfold withdrawWake
  exact (frame_lgt ..).trans ((withdrawPart_frame ..).comp (withdrawPart_frame ..))

theorem requestWake_frame (n) (s : State) : ChangesOnly [.lgt, .ntq] s (requestWake n s) := by
  unfold requestWake
  exact (withdrawWake_frame s).comp ((frame_lgt ..).trans (placePart_frame ..))

theorem requestPattern_frame (p) (s : State) : ChangesOnly [.lgt, .ntq] s (requestPattern p s) := by
  unfold requestPattern; split
  · exact requestWake_frame ..
  · exact requestAlert_frame ..

theorem requestBetween_frame (p) (s : State) : ChangesOnly [.lgt, .ntq] s (requestBetween p s) := by
  unfold requestBetween
  exact (requestPattern_frame ..).trans (frame_lgt ..)

theorem lightDegrade_frame (l on) (s : State) : ChangesOnly [.lgt, .out] s (lightDegrade l on s) := by
  unfold lightDegrade; exact (setLight_frame ..).trans (refresh_frame ..)

theorem skipParts_frame (l f) (s : State) : ChangesOnly [.lgt, .ntq] s (skipParts l f s) := by
  unfold skipParts; dsimp only
  have h : ChangesOnly [.lgt, .ntq] s
      (match (s.light l).playing with
       | some p =>
         if f p.pattern then partLeaves p.pattern l .skipped (s.setLight l { s.light l with playing := none }) else s
       | none => s) := by
    split
    · split
      · exact (setLight_frame ..).trans (partLeaves_frame ..)
      · exact .refl s
    · exact .refl s
  split
  · split
    · exact h.comp ((setLight_frame ..).trans (partLeaves_frame ..))
    · exact h
  · exact h

theorem lightShed_frame (l) (s : State) : ChangesOnly [.lgt, .ntq, .out] s (lightShed l s) := by
  unfold lightShed
  exact ((endPrograms_frame ..).comp (skipParts_frame ..)).trans
    ((setLight_frame ..).trans (refresh_frame ..) (rs := [.lgt, .out]))

theorem lightUnshed_frame (l) (s : State) : ChangesOnly [.lgt, .out] s (lightUnshed l s) := by
  unfold lightUnshed; exact (setLight_frame ..).trans (refresh_frame ..)

theorem cutoffLight_frame (l) (s : State) : ChangesOnly [.lgt, .ntq] s (cutoffLight l s) := by
  unfold cutoffLight
  exact ((endPrograms_frame ..).comp (skipParts_frame ..)).trans (showSteady_frame ..)

theorem lightsRefresh_frame (s : State) : ChangesOnly [.lgt, .out] s (lightsRefresh s) := by
  unfold lightsRefresh; exact ((refresh_frame ..).comp (refresh_frame ..)).comp (refresh_frame ..)

theorem cutoffSet_frame (s : State) : ChangesOnly [.lgt, .ntq, .out] s (cutoffSet s) := by
  unfold cutoffSet
  exact (((cutoffLight_frame ..).comp (cutoffLight_frame ..)).comp (cutoffLight_frame ..)).trans
    ((frame_lgt ..).trans (lightsRefresh_frame _) (rs := [.lgt, .out]))

theorem cutoffCleared_frame (s : State) : ChangesOnly [.lgt] s (cutoffCleared s) := frame_lgt ..

theorem lightLatched_frame (l) (s : State) : ChangesOnly [.lgt, .ntq] s (lightLatched l s) := by
  unfold lightLatched; split
  · exact (endPrograms_frame ..).trans (showSteady_frame ..)
  · exact endPrograms_frame ..

theorem takeOver_frame (l v r) (s : State) : ChangesOnly [.lgt, .ntq] s (takeOver l v r s) := by
  unfold takeOver; dsimp only; split
  · exact (endPrograms_frame ..).trans ((setSteady_frame ..).comp (showSteady_frame ..))
  · exact (endPrograms_frame ..).trans (setLight_frame ..)

theorem toggleLamp_frame (l) (s : State) : ChangesOnly [.lgt, .ntq] s (toggleLamp l s) := takeOver_frame ..

theorem panelKey_frame (k p) (s : State) : ChangesOnly [.lgt, .ntq] s (panelKey k p s) := by
  unfold panelKey; dsimp only
  repeat' split
  all_goals first
    | exact .refl s
    | exact toggleLamp_frame ..
    | exact takeOver_frame ..

theorem lightsTick_frame (s : State) : ChangesOnly [.lgt] s (lightsTick s) := frame_lgt ..

theorem trySetLight_frame (l v r) (s : State) : ChangesOnly [.lgt] s (trySetLight l v r s).2 := by
  unfold trySetLight
  repeat' split
  all_goals first
    | exact .refl s
    | exact setSteady_frame ..

theorem placeProgram_frame (l q) (s : State) : ChangesOnly [.lgt] s (placeProgram l q s).2 := by
  unfold placeProgram; dsimp only; split <;> exact setLight_frame ..

theorem cancelPrograms_frame (l f) (s : State) : ChangesOnly [.lgt, .ntq] s (cancelPrograms l f s) := by
  unfold cancelPrograms; exact (setLight_frame ..).trans (postEnds_frame ..)

/-! ### Strokes -/

theorem pumpDuty_frame (d) (s : State) : ChangesOnly [.out] s (pumpDuty d s) := setChan_frame ..

theorem strokeTrigger_frame (n) (s : State) : ChangesOnly [.out] s (strokeTrigger n s) := by
  unfold strokeTrigger; split
  · split
    · exact setStroke_frame ..
    · exact (setStroke_frame ..).comp (pumpDuty_frame ..)
  · exact .refl s

/-! ### Heater sequencer -/

theorem postHeaterState_frame (s : State) : ChangesOnly [.ntq] s (postHeaterState s) := post_frame ..
theorem writeHeaterDemand_frame (c) (s : State) : ChangesOnly [.out] s (writeHeaterDemand c s) := demand_frame ..

theorem writeHeaterDemands_frame (s : State) : ChangesOnly [.out] s (writeHeaterDemands s) := by
  unfold writeHeaterDemands
  exact ((writeHeaterDemand_frame ..).comp (writeHeaterDemand_frame ..)).comp (writeHeaterDemand_frame ..)

theorem enterHeater_frame (st h) (s : State) : ChangesOnly [.htr, .out, .ntq] s (enterHeater st h s) := by
  unfold enterHeater
  exact ((frame_htr ..).trans (writeHeaterDemands_frame _) (rs := [.htr, .out])).trans (postHeaterState_frame ..)

theorem enterOff_frame (s : State) : ChangesOnly [.htr, .out, .ntq] s (enterOff s) := enterHeater_frame ..
theorem enterCheck_frame (o) (s : State) : ChangesOnly [.htr, .out, .ntq] s (enterCheck o s) := enterHeater_frame ..
theorem enterWait_frame (n) (s : State) : ChangesOnly [.htr, .out, .ntq] s (enterWait n s) := enterHeater_frame ..
theorem enterPurge_frame (p) (s : State) : ChangesOnly [.htr, .out, .ntq] s (enterPurge p s) := enterHeater_frame ..

theorem enterLockout_frame (c) (s : State) : ChangesOnly [.htr, .out, .lgt, .ntq, .sto] s (enterLockout c s) := by
  unfold enterLockout; dsimp only
  exact ((enterHeater_frame ..).trans (requestPartWrite_frame _) (rs := [.htr, .out, .ntq, .sto])).trans
    ((requestAlert_frame ..).trans (post_frame ..) (rs := [.lgt, .ntq]))

theorem setNext_frame (n c) (s : State) : ChangesOnly [.htr, .ntq] s (setNext n c s) := by
  unfold setNext; split
  · exact .refl s
  · split
    · exact .refl s
    · exact (frame_htr ..).trans (postHeaterState_frame ..)

theorem declineStart_frame (w v) (s : State) : ChangesOnly [.htr, .out, .ntq] s (declineStart w v s) := by
  unfold declineStart; dsimp only; split
  · exact (enterWait_frame ..).trans (post_frame ..)
  · exact (enterOff_frame ..).trans (post_frame ..)

theorem tryStart_frame (m t r g) (s : State) : ChangesOnly [.htr, .out, .ntq] s (tryStart m t r g s).2 := by
  unfold tryStart; dsimp only; split
  · exact .refl s
  · repeat' split
    all_goals first
      | exact .refl s
      | exact (frame_htr ..).trans (enterCheck_frame ..)
      | exact (frame_htr ..).trans (setNext_frame ..)

theorem changeStage_frame (n) (s : State) : ChangesOnly [.htr, .out] s (changeStage n s) := by
  unfold changeStage; exact (frame_htr ..).trans (writeHeaterDemand_frame ..)

theorem takeFixedStage_frame (s : State) : ChangesOnly [.htr, .out] s (takeFixedStage s) := by
  unfold takeFixedStage; dsimp only
  repeat' split
  all_goals first
    | exact .refl s
    | exact changeStage_frame ..

theorem pumpFault_frame (s : State) : ChangesOnly [.htr, .out, .ntq] s (pumpFault s) := by
  unfold pumpFault; split
  · exact enterPurge_frame ..
  · exact .refl s

theorem pumpOpenFound_frame (s : State) : ChangesOnly [.htr, .out, .ntq] s (pumpOpenFound s) := by
  unfold pumpOpenFound; split
  · exact pumpFault_frame s
  · exact .refl s

theorem flameDetected_frame (s : State) : ChangesOnly [.htr, .out, .ntq] s (flameDetected s) := enterHeater_frame ..

theorem windowExpired_frame (s : State) : ChangesOnly [.htr, .out, .ntq] s (windowExpired s) := by
  unfold windowExpired; dsimp only; split <;> exact (frame_htr ..).trans (enterPurge_frame ..)

theorem glowGoesOff_frame (s : State) : ChangesOnly [.htr, .out] s (glowGoesOff s) := by
  unfold glowGoesOff; exact (frame_htr ..).trans (writeHeaterDemand_frame ..)

theorem thermostatEvaluation_frame (s : State) : ChangesOnly [.htr, .out, .ntq] s (thermostatEvaluation s) := by
  unfold thermostatEvaluation; dsimp only
  repeat' split
  all_goals first
    | exact .refl s
    | exact (frame_htr ..).trans (changeStage_frame ..)
    | exact (frame_htr ..).mono
    | exact enterCheck_frame ..

theorem stopHeater_frame (s : State) : ChangesOnly [.htr, .out, .ntq] s (stopHeater s) := by
  unfold stopHeater
  repeat' split
  all_goals first
    | exact .refl s
    | exact enterOff_frame s
    | exact enterPurge_frame ..
    | exact (setNext_frame ..).mono

theorem purgeEnds_frame (p) (s : State) : ChangesOnly [.htr, .out, .lgt, .ntq, .sto] s (purgeEnds p s) := by
  unfold purgeEnds; split
  · exact (enterOff_frame s).mono
  · exact (enterCheck_frame ..).mono
  · exact (enterWait_frame ..).mono
  · exact enterLockout_frame ..

theorem purgeEndTest_frame (s : State) : ChangesOnly [.htr, .out, .lgt, .ntq, .sto] s (purgeEndTest s) := by
  unfold purgeEndTest
  repeat' split
  all_goals first
    | exact .refl s
    | exact purgeEnds_frame ..

theorem purgeMaxTest_frame (s : State) : ChangesOnly [.htr] s (purgeMaxTest s) := frame_htr ..

/-- PURGE_MAXIMUM is due only after a sample set whose maximum test held, in a purge that is not suspended (R53). -/
theorem purgeMaximum_of_ne {s t : State} (h : execPurgeMaximum s = .next t) (hne : t ≠ s) :
    s.htr.purgeMaxed = true ∧ ∃ p, s.htr.purge = some p ∧ p.suspended = false := by
  unfold execPurgeMaximum State.live at h
  split at h
  · exact absurd (Host.Outcome.next.inj h).symm hne
  · dsimp only at h
    split at h
    · rename_i p hp
      simp only [whenDue] at h
      split at h
      · rename_i hd
        simp only [Bool.and_eq_true, Bool.not_eq_true'] at hd
        exact ⟨hd.1, p, hp, hd.2⟩
      · exact absurd (Host.Outcome.next.inj h).symm hne
    · exact absurd (Host.Outcome.next.inj h).symm hne

theorem flameOut_frame (s : State) : ChangesOnly [.htr, .out, .ntq] s (flameOut s) := by
  unfold flameOut; split
  · exact (frame_htr ..).trans (enterPurge_frame ..)
  · exact enterPurge_frame ..

theorem overheat_frame (s : State) : ChangesOnly [.htr, .out, .ntq] s (overheat s) := by
  unfold overheat; split
  · exact (setNext_frame ..).mono
  · exact enterPurge_frame ..

theorem exchangerFault_frame (s : State) : ChangesOnly [.htr, .out, .ntq] s (exchangerFault s) := by
  unfold exchangerFault
  repeat' split
  all_goals first
    | exact .refl s
    | exact enterPurge_frame ..
    | exact (frame_htr ..).trans (setNext_frame ..)
    | exact declineStart_frame ..

theorem heaterLatched_frame (c) (s : State) : ChangesOnly [.htr, .out, .lgt, .ntq, .sto] s (heaterLatched c s) := by
  unfold heaterLatched
  repeat' split
  all_goals first
    | exact .refl s
    | exact (declineStart_frame ..).mono
    | exact enterLockout_frame ..
    | exact (pumpFault_frame s).mono
    | exact (enterPurge_frame ..).trans (post_frame ..)

theorem heaterPumpOpen_frame (s : State) : ChangesOnly [.htr, .out, .ntq] s (heaterPumpOpen s) := by
  unfold heaterPumpOpen; split
  · exact pumpFault_frame s
  · exact .refl s

theorem heaterHold_frame (c) (s : State) : ChangesOnly [.htr, .out, .ntq] s (heaterHold c s) := by
  have z (k : Heater) : ChangesOnly [.htr, .out, .ntq] s { s with htr := k } := (frame_htr ..).mono
  unfold heaterHold
  dsimp only
  split
  all_goals first
    | exact z _
    | exact (frame_htr s _).trans (declineStart_frame ..)
    | exact (z _).comp ((frame_htr ..).trans (enterPurge_frame ..))

theorem heaterRelease_frame (s : State) : ChangesOnly [.htr] s (heaterRelease s) := frame_htr ..

theorem heaterDegrade_frame (on) (s : State) : ChangesOnly [.htr, .out] s (heaterDegrade on s) := by
  unfold heaterDegrade
  repeat' split
  all_goals first
    | exact .refl s
    | exact changeStage_frame ..
    | exact takeFixedStage_frame s

theorem heaterShed_frame (s : State) : ChangesOnly [.htr, .out, .ntq] s (heaterShed s) := by
  unfold heaterShed
  repeat' split
  all_goals first
    | exact .refl s
    | exact enterOff_frame s
    | exact enterPurge_frame ..
    | exact (setNext_frame ..).mono

theorem key3Press_frame (s : State) : ChangesOnly [.htr, .out, .ntq] s (key3Press s) := by
  unfold key3Press
  repeat' split
  all_goals first
    | exact .refl s
    | exact tryStart_frame ..
    | exact stopHeater_frame s

theorem heaterTick_frame (s : State) : ChangesOnly [.htr] s (heaterTick s) := frame_htr ..

theorem heaterSet_frame (b) (s : State) : ChangesOnly [.htr, .out, .lgt, .ntq, .sto] s (heaterSet b s) := by
  have h : ChangesOnly [.htr, .out, .lgt, .ntq, .sto] s (match s.htr.state with
      | .ignition => if b && windowOver s then windowExpired s else if flameSeen s then flameDetected s else s
      | .stabilise | .run => if flameLost s then flameOut s else s
      | .purge => purgeEndTest s
      | .off | .check | .glow | .prime | .waitDemand | .lockout => s) := by
    repeat' split
    all_goals first
      | exact .refl s
      | exact (windowExpired_frame s).mono
      | exact (flameDetected_frame s).mono
      | exact (flameOut_frame s).mono
      | exact purgeEndTest_frame s
  have hot : ∀ t, ChangesOnly [.htr, .out, .lgt, .ntq, .sto] t (if overheated t then overheat t else t) := by
    intro t
    split
    · exact (overheat_frame t).mono
    · exact .refl t
  exact (h.comp (hot _)).comp (purgeMaxTest_frame _).mono

theorem tryStop_frame (s : State) : ChangesOnly [.htr, .out, .ntq] s (tryStop s).2 := by
  unfold tryStop; split
  · exact stopHeater_frame s
  · exact .refl s

theorem heaterSetEffect_frame (s : State) : ChangesOnly [.htr, .out, .ntq] s (heaterSetEffect s) := by
  unfold heaterSetEffect
  repeat' split
  all_goals first
    | exact .refl s
    | exact (takeFixedStage_frame s).mono
    | exact enterCheck_frame ..

/-! ### Cooling controller -/

theorem switchOff_frame (s : State) : ChangesOnly [.cool] s (switchOff s) := frame_cool ..

theorem compressorOff_frame (s : State) : ChangesOnly [.cool, .out] s (compressorOff s) := by
  unfold compressorOff; split
  · exact (switchOff_frame s).trans (demand_frame ..)
  · exact (demand_frame ..).mono

theorem chooseStep_frame (s : State) : ChangesOnly [.cool] s (chooseStep s) := frame_cool ..

theorem chooseStepAfresh_frame (s : State) : ChangesOnly [.cool] s (chooseStepAfresh s) := by
  unfold chooseStepAfresh; exact (chooseStep_frame s).comp (frame_cool ..)

theorem postCoolingState_frame (w) (s : State) : ChangesOnly [.ntq] s (postCoolingState w s) := post_frame ..
theorem postCoolingFault_frame (s : State) : ChangesOnly [.ntq] s (postCoolingFault s) := post_frame ..

theorem enterCooling_frame (st w) (s : State) : ChangesOnly [.cool, .out, .ntq] s (enterCooling st w s) := by
  unfold enterCooling
  exact ((compressorOff_frame s).trans (frame_cool ..) (rs := [.cool, .out])).trans (postCoolingState_frame ..)

theorem enterMinOff_frame (w) (s : State) : ChangesOnly [.cool, .out, .ntq] s (enterMinOff w s) := by
  unfold enterMinOff
  exact ((compressorOff_frame s).trans (frame_cool ..) (rs := [.cool, .out])).trans (postCoolingState_frame ..)

theorem enterRunning_frame (s : State) : ChangesOnly [.cool, .out, .ntq] s (enterRunning s) := by
  unfold enterRunning
  exact (((frame_cool ..).comp (chooseStepAfresh_frame _)).trans (demand_frame ..) (rs := [.cool, .out])).trans
    (postCoolingState_frame ..)

theorem failedRun_frame (w) (s : State) : ChangesOnly [.cool, .out, .ntq] s (failedRun w s) := by
  unfold failedRun; dsimp only; split
  · exact ((compressorOff_frame s).trans (frame_cool ..) (rs := [.cool, .out])).trans
      (((enterCooling_frame ..).trans (frame_cool ..) (rs := [.cool, .out, .ntq])).trans (postCoolingFault_frame ..)
        (rs := [.cool, .out, .ntq]))
  · exact ((compressorOff_frame s).trans (frame_cool ..) (rs := [.cool, .out])).trans (enterMinOff_frame ..)

theorem coolingTrip_frame (s : State) : ChangesOnly [.cool, .out, .ntq] s (coolingTrip s) := by
  unfold coolingTrip; split
  · exact failedRun_frame ..
  · exact .refl s

theorem coolingLatch_frame (s : State) : ChangesOnly [.cool, .out, .ntq] s (coolingLatch s) := by
  unfold coolingLatch; split
  · exact .refl s
  · exact ((enterCooling_frame ..).trans (frame_cool ..) (rs := [.cool, .out, .ntq])).trans
      (postCoolingFault_frame ..)

theorem coolingCleared_frame (s : State) : ChangesOnly [.out] s (coolingCleared s) := by
  unfold coolingCleared; split <;> exact demand_frame ..

theorem coolingHold_frame (s : State) : ChangesOnly [.cool, .out, .ntq] s (coolingHold s) := by
  unfold coolingHold; dsimp only; split
  · exact (frame_cool ..).trans (enterMinOff_frame ..)
  · exact (frame_cool ..).mono

theorem coolingRelease_frame (s : State) : ChangesOnly [.cool] s (coolingRelease s) := frame_cool ..

theorem lidOpened_frame (s : State) : ChangesOnly [.cool] s (lidOpened s) := by
  unfold lidOpened; dsimp only; split
  · exact (frame_cool ..).comp (chooseStep_frame _)
  · exact frame_cool ..

theorem lidClosed_frame (s : State) : ChangesOnly [.cool] s (lidClosed s) := frame_cool ..

theorem coolingDegrade_frame (on) (s : State) : ChangesOnly [.cool] s (coolingDegrade on s) := by
  unfold coolingDegrade; dsimp only; split
  · exact (frame_cool ..).comp (chooseStep_frame _)
  · exact frame_cool ..

theorem coolingShed_frame (s : State) : ChangesOnly [.cool, .out, .ntq] s (coolingShed s) := by
  unfold coolingShed; dsimp only
  repeat' split
  all_goals first
    | exact (frame_cool ..).trans (enterMinOff_frame ..)
    | exact ((frame_cool ..).comp (frame_cool ..)).mono

theorem coolingUnshed_frame (s : State) : ChangesOnly [.cool] s (coolingUnshed s) := frame_cool ..

theorem coolingBandStop_frame (s : State) : ChangesOnly [.cool, .out, .ntq] s (coolingBandStop s) := by
  unfold coolingBandStop; split
  · exact enterMinOff_frame ..
  · exact .refl s

theorem fallbackSet_frame (s : State) : ChangesOnly [.cool] s (fallbackSet s) := by
  unfold fallbackSet; dsimp only
  repeat' split
  all_goals first
    | exact (frame_cool ..).comp (chooseStepAfresh_frame _)
    | exact (frame_cool ..).comp (frame_cool ..)

theorem fallbackCleared_frame (s : State) : ChangesOnly [.cool] s (fallbackCleared s) := frame_cool ..

theorem startCheckPass_frame (s : State) : ChangesOnly [.cool] s (startCheckPass s) := by
  unfold startCheckPass; split
  · exact frame_cool ..
  · exact .refl s

theorem cutInTest_frame (s : State) : ChangesOnly [.cool] s (cutInTest s) := frame_cool ..

/-- CUT_IN is due only after a sample set whose cut-in test held, in WAITING, with every admission condition (R70). -/
theorem cutIn_of_ne {s t : State} (h : execCutIn s = .next t) (hne : t ≠ s) :
    s.cool.state = .waiting ∧ s.cool.cutIn = true ∧ cutInAdmitted s = true := by
  unfold execCutIn State.live at h
  split at h
  · exact absurd (Host.Outcome.next.inj h).symm hne
  · simp only [whenDue] at h
    split at h
    · rename_i hd
      simp only [Bool.and_eq_true, beq_iff_eq] at hd
      exact ⟨hd.1.1, hd.1.2, hd.2⟩
    · exact absurd (Host.Outcome.next.inj h).symm hne

theorem offTimeEnds_frame (s : State) : ChangesOnly [.cool, .out, .ntq] s (offTimeEnds s) :=
  (enterCooling_frame .waiting .offTimeEnded s).trans (frame_cool ..)

theorem cutOutTest_frame (s : State) : ChangesOnly [.cool, .out, .ntq] s (cutOutTest s) := by
  unfold cutOutTest; split
  · exact enterMinOff_frame ..
  · exact .refl s

theorem coolingOnFromOff_frame (s : State) : ChangesOnly [.cool, .out, .ntq] s (coolingOnFromOff s) := by
  unfold coolingOnFromOff; split
  · exact enterCooling_frame ..
  · exact enterMinOff_frame ..

theorem coolingSetEffect_frame (on t) (s : State) : ChangesOnly [.cool, .out, .ntq] s (coolingSetEffect on t s) := by
  unfold coolingSetEffect coolingFaultCleared; dsimp only
  repeat' split
  all_goals first
    | exact (frame_cool ..).trans (coolingOnFromOff_frame _)
    | exact ((frame_cool ..).comp (frame_cool ..)).trans (coolingOnFromOff_frame _)
    | exact (frame_cool ..).trans (enterCooling_frame ..)
    | exact ((frame_cool ..).comp (frame_cool ..)).trans (enterCooling_frame ..)
    | exact (frame_cool ..).mono

theorem tryCooling_frame (on t) (s : State) : ChangesOnly [.cool, .out, .ntq] s (tryCooling on t s).2 := by
  unfold tryCooling
  repeat' split
  all_goals first
    | exact .refl s
    | exact coolingSetEffect_frame ..

end Sys2Proof.Machine
end

