-- ==== Sys2Proof/Laws/Units.lean ====
section
/-! SUPPORT. Frames of the other units: one lemma for each shared operation of the output stage, the rest clock, the
timers, the reserve account, the measurement unit, the store, start-up and the link. -/

namespace Sys2Proof.Machine

set_option Elab.async false

/-- A turn of a loop that does its work only under a condition. -/
theorem ChangesOnly.cond {ps : List Comp} {s t : State} (c : Prop) [Decidable c] (h : ChangesOnly ps s t) :
    ChangesOnly ps s (if c then t else s) := by
  split
  · exact h
  · exact .refl s

/-! ### Output stage -/

theorem stroke_frame (s : State) (k) : ChangesOnly [.out] s (s.setStroke k) := setStroke_frame ..

theorem reportTrip_frame (c) (s : State) : ChangesOnly [.cool, .out, .ntq] s (reportTrip c s) := by
  unfold reportTrip; exact .cond _ (coolingTrip_frame s)

theorem reportLatch_frame (c) (s : State) :
    ChangesOnly [.htr, .cool, .out, .lgt, .ntq, .sto] s (reportLatch c s) := by
  unfold reportLatch; split
  · exact (heaterLatched_frame ..).mono
  · exact (heaterLatched_frame ..).mono
  · exact (heaterLatched_frame ..).mono
  · exact (coolingLatch_frame s).mono
  · exact (lightLatched_frame ..).mono
  · exact (lightLatched_frame ..).mono
  · exact (lightLatched_frame ..).mono

theorem reportCleared_frame (c) (s : State) : ChangesOnly [.out] s (reportCleared c s) := by
  unfold reportCleared; split
  · exact writeHeaterDemand_frame ..
  · exact writeHeaterDemand_frame ..
  · exact writeHeaterDemand_frame ..
  · exact coolingCleared_frame s
  · exact writeLevel_frame ..
  · exact writeLevel_frame ..
  · exact writeLevel_frame ..

theorem cutFor_frame (c) (s : State) : ChangesOnly [.out] s (cutFor c s) := by
  unfold cutFor; exact .cond _ (setStroke_frame ..)

theorem overcurrent_frame (c) (s : State) :
    ChangesOnly [.htr, .cool, .out, .lgt, .ntq, .sto] s (overcurrent c s) := by
  have h : ∀ u : State, ChangesOnly [.htr, .cool, .out, .lgt, .ntq, .sto] u
      (if (u.chan c).state = .latched then reportLatch c (post .channelFault 1 (consumerNumber c) u)
       else reportTrip c (post .channelFault 0 (consumerNumber c) u)) := by
    intro u; split
    · exact (post_frame ..).trans (reportLatch_frame ..)
    · exact (post_frame ..).trans (reportTrip_frame ..)
  have g : ∀ u : State, ChangesOnly [.cool] u (if c = .compressor then switchOff u else u) := fun u =>
    .cond _ (switchOff_frame u)
  exact (((setChan_frame ..).comp (cutFor_frame ..)).trans (g _) (rs := [.cool, .out])).trans (h _)

theorem overcurrents_frame (s : State) : ChangesOnly [.htr, .cool, .out, .lgt, .ntq, .sto] s (overcurrents s) := by
  unfold overcurrents; exact .foldl _ (fun s c => .cond _ (overcurrent_frame c s)) ..

theorem setOpenLoad_frame (c on) (s : State) : ChangesOnly [.out, .ntq] s (setOpenLoad c on s) := by
  unfold setOpenLoad; exact (setChan_frame ..).trans (post_frame ..)

theorem strokeOpenLoad_frame (o) (s : State) : ChangesOnly [.htr, .out, .ntq] s (strokeOpenLoad o s) := by
  unfold strokeOpenLoad
  repeat' split
  all_goals first
    | exact .refl s
    | exact (setOpenLoad_frame ..).mono
    | exact (setOpenLoad_frame ..).trans (heaterPumpOpen_frame _)

theorem strokeOutcome_frame (o) (s : State) : ChangesOnly [.htr, .out, .ntq] s (strokeOutcome o s) := by
  have h : ∀ (b : Bool) (u : State), ChangesOnly [.htr, .out, .ntq] u (if b then pumpFault u else u) :=
    fun b u => .cond _ (pumpFault_frame u)
  exact ((setStroke_frame ..).trans (strokeOpenLoad_frame ..) (rs := [.htr, .out, .ntq])).comp (h _ _)

theorem beginHold_frame (p) (s : State) : ChangesOnly [.out] s (beginHold p s) := by
  unfold beginHold; exact ((setStroke_frame ..).comp (pumpDuty_frame ..)).comp (setChan_frame ..)

theorem slots_frame (s : State) : ChangesOnly [.out] s (slots s) := frame_out ..
theorem oneSecondMeans_frame (s : State) : ChangesOnly [.out] s (oneSecondMeans s) := frame_out ..
theorem openRunsSet_frame (u s : State) : ChangesOnly [.out] s (openRunsSet u s) := frame_out ..
theorem retryTick_frame (s : State) : ChangesOnly [.out] s (retryTick s) := frame_out ..
theorem slewSet_frame (s : State) : ChangesOnly [.out] s (slewSet s) := frame_out ..

theorem compensateHold_frame (s : State) : ChangesOnly [.out] s (compensateHold s) := by
  unfold compensateHold; split
  · split
    · exact (pumpDuty_frame ..).comp (setChan_frame ..)
    · exact .refl s
  · exact .refl s

theorem compensateSet_frame (s : State) : ChangesOnly [.out] s (compensateSet s) := by
  unfold compensateSet; exact (frame_out ..).comp (compensateHold_frame _)

theorem holdBegins_frame (c) (s : State) : ChangesOnly [.htr, .cool, .out, .ntq] s (holdBegins c s) := by
  have a : ∀ u : State, ChangesOnly [.cool] u (if (u.chan .compressor).state = .driving then switchOff u else u) :=
    fun u => .cond _ (switchOff_frame u)
  have b : ∀ u : State, ChangesOnly [.htr, .out, .ntq] u (if heaterFitted u then heaterHold c u else u) :=
    fun u => .cond _ (heaterHold_frame ..)
  have d : ∀ u : State, ChangesOnly [.cool, .out, .ntq] u (if coolingFitted u then coolingHold u else u) :=
    fun u => .cond _ (coolingHold_frame u)
  exact (((a s).trans (frame_out ..) (rs := [.cool, .out])).trans (b _) (rs := [.htr, .cool, .out, .ntq])).trans (d _)

theorem holdEnds_frame (s : State) : ChangesOnly [.htr, .cool, .out] s (holdEnds s) := by
  have b : ∀ u : State, ChangesOnly [.htr] u (if heaterFitted u then heaterRelease u else u) :=
    fun u => .cond _ (heaterRelease_frame u)
  have d : ∀ u : State, ChangesOnly [.cool] u (if coolingFitted u then coolingRelease u else u) :=
    fun u => .cond _ (coolingRelease_frame u)
  exact ((frame_out ..).trans (b _) (rs := [.htr, .out])).trans (d _)

theorem withHolds_frame (f t c) (s : State) : ChangesOnly [.htr, .cool, .out, .ntq] s (withHolds f t c s) := by
  have h : ∀ (b : Bool) (u : State), ChangesOnly [.htr, .cool, .out, .ntq] u
      (if !b && holding u then holdBegins c u else if b && !holding u then holdEnds u else u) := by
    intro b u
    repeat' split
    all_goals first
      | exact holdBegins_frame ..
      | exact (holdEnds_frame u).mono
      | exact .refl u
  exact (frame_out ..).trans (h _ _)

theorem judgeFloor_frame (s : State) : ChangesOnly [.htr, .cool, .out, .ntq] s (judgeFloor s) := withHolds_frame ..
theorem judgeThermal_frame (s : State) : ChangesOnly [.htr, .cool, .out, .ntq] s (judgeThermal s) := withHolds_frame ..

theorem clearLatch_frame (c) (s : State) : ChangesOnly [.out, .ntq] s (clearLatch c s) := by
  unfold clearLatch
  exact ((setChan_frame ..).trans (post_frame ..) (rs := [.out, .ntq])).trans (reportCleared_frame ..)

/-! ### Timer unit -/

theorem postMissed_frame (l : List Nat) (s : State) :
    ChangesOnly [.ntq] s (l.foldl (fun s (id : Nat) => post .timerMissed 0 (id : Int) s) s) :=
  ChangesOnly.foldl _ (fun _ _ => post_frame ..) l s

theorem clockSet_frame (m t) (s : State) : ChangesOnly [.tmr, .ntq] s (clockSet m t s) := by
  unfold clockSet; dsimp only
  repeat' split
  all_goals first
    | exact (frame_tmr ..).mono
    | exact (frame_tmr ..).trans (postMissed_frame ..)

theorem createLinked_frame (i a d) (s : State) : ChangesOnly [.tmr] s (createLinked i a d s) := frame_tmr ..
theorem removeLinked_frame (i) (s : State) : ChangesOnly [.tmr] s (removeLinked i s) := frame_tmr ..

theorem moveDue_frame (i d) (s : State) : ChangesOnly [.tmr] s (moveDue i d s) := by
  unfold moveDue; split
  · exact frame_tmr ..
  · exact .refl s

/-! ### Rest clock -/

theorem removeLinkedAll_frame (s : State) : ChangesOnly [.tmr] s (removeLinkedAll s) := by
  unfold removeLinkedAll; exact ((removeLinked_frame ..).comp (removeLinked_frame ..)).comp (removeLinked_frame ..)

theorem closeSession_frame (x d a) (s : State) :
    ChangesOnly [.duty, .tmr, .lgt, .ntq] s (closeSession x d a s) := by
  have h : ∀ (b : Bool) (m : Int) (u : State), ChangesOnly [.lgt, .ntq] u
      (if b then (if a then requestAlert .restShort (post .restShort d m u) else post .restShort d m u) else u) := by
    intro b m u
    split
    · split
      · exact (post_frame ..).trans (requestAlert_frame ..)
      · exact (post_frame ..).mono
    · exact .refl u
  exact ((((removeLinkedAll_frame s).trans (withdrawWake_frame _) (rs := [.tmr, .lgt, .ntq])).trans (h _ _ _)
    (rs := [.tmr, .lgt, .ntq])).trans (post_frame ..) (rs := [.tmr, .lgt, .ntq])).trans (frame_duty ..)

theorem switchKind_frame (k c) (s : State) : ChangesOnly [.duty] s (switchKind k c s) := frame_duty ..

theorem reevaluate_frame (c) (s : State) : ChangesOnly [.duty, .tmr, .lgt, .ntq] s (reevaluate c s) := by
  unfold reevaluate; dsimp only
  repeat' split
  all_goals first
    | exact .refl s
    | exact (switchKind_frame ..).mono
    | exact (closeSession_frame ..).trans (switchKind_frame ..)

theorem ignitionOn_frame (s : State) : ChangesOnly [.duty, .tmr, .lgt, .ntq] s (ignitionOn s) := by
  unfold ignitionOn; exact (frame_duty ..).trans (reevaluate_frame ..)

theorem ignitionOff_frame (s : State) : ChangesOnly [.duty, .tmr, .lgt, .ntq] s (ignitionOff s) := by
  unfold ignitionOff; exact (frame_duty ..).trans (reevaluate_frame ..)

theorem thresholdFirst_frame (s : State) : ChangesOnly [.duty, .ntq] s (thresholdFirst s) := by
  unfold thresholdFirst; exact .cond _ (frame_duty ..).mono

theorem thresholdSecond_frame (s : State) : ChangesOnly [.duty, .ntq] s (thresholdSecond s) := by
  unfold thresholdSecond; dsimp only
  repeat' split
  all_goals first
    | exact .refl s
    | exact (frame_duty ..).mono
    | exact (frame_duty ..).trans (post_frame ..)

theorem thresholdFull_frame (s : State) : ChangesOnly [.duty, .ntq] s (thresholdFull s) := by
  unfold thresholdFull; dsimp only
  repeat' split
  all_goals first
    | exact .refl s
    | exact (frame_duty ..).mono
    | exact (frame_duty ..).trans (post_frame ..)

theorem thresholdDaily_frame (s : State) : ChangesOnly [.duty, .ntq] s (thresholdDaily s) := by
  unfold thresholdDaily; exact .cond _ ((frame_duty ..).trans (post_frame ..))

theorem thresholds_frame (s : State) : ChangesOnly [.duty, .ntq] s (thresholds s) := by
  unfold thresholds
  exact (((thresholdFirst_frame s).comp (thresholdSecond_frame _)).comp (thresholdFull_frame _)).comp
    (thresholdDaily_frame _)

/-- A latch, its notice and its alert. -/
theorem warn_frame (d k n m p) (s : State) :
    ChangesOnly [.duty, .lgt, .ntq] s (requestBetween p (post k n m { s with duty := d })) :=
  ((frame_duty ..).trans (post_frame ..) (rs := [.duty, .ntq])).trans (requestBetween_frame ..)

theorem warnCdPre_frame (s : State) : ChangesOnly [.duty, .lgt, .ntq] s (warnCdPre s) := by
  unfold warnCdPre; exact .cond _ (warn_frame ..)

theorem warnCdLimit_frame (s : State) : ChangesOnly [.duty, .lgt, .ntq] s (warnCdLimit s) := by
  unfold warnCdLimit; exact .cond _ (warn_frame ..)

theorem warnDdPre_frame (s : State) : ChangesOnly [.duty, .lgt, .ntq] s (warnDdPre s) := by
  unfold warnDdPre; exact .cond _ (warn_frame ..)

theorem warnDdLimit_frame (s : State) : ChangesOnly [.duty, .lgt, .ntq] s (warnDdLimit s) := by
  unfold warnDdLimit; exact .cond _ (warn_frame ..)

theorem warnings_frame (s : State) : ChangesOnly [.duty, .lgt, .ntq] s (warnings s) := by
  unfold warnings
  exact (((warnCdPre_frame s).comp (warnCdLimit_frame _)).comp (warnDdPre_frame _)).comp (warnDdLimit_frame _)

theorem repeatCd_frame (s : State) : ChangesOnly [.duty, .lgt, .ntq] s (repeatCd s) := by
  unfold repeatCd; exact warn_frame ..

theorem repeatDd_frame (s : State) : ChangesOnly [.duty, .lgt, .ntq] s (repeatDd s) := by
  unfold repeatDd; exact warn_frame ..

theorem limitRepeated_frame (x) (s : State) : ChangesOnly [.duty, .lgt, .ntq] s (limitRepeated x s) := by
  unfold limitRepeated; split
  · exact whenDue_frame _ (repeatCd_frame s)
  · exact whenDue_frame _ (repeatDd_frame s)

theorem dutySecond_frame (s : State) : ChangesOnly [.duty, .lgt, .ntq] s (dutySecond s) := by
  unfold dutySecond; dsimp only; split
  · exact (frame_duty ..).trans (warnings_frame _)
  · exact (frame_duty ..).trans (thresholds_frame _)

theorem createEntries_frame (x) (s : State) : ChangesOnly [.tmr] s (createEntries x s) := by
  have a : ∀ u : State, ChangesOnly [.tmr] u
      (if 0 < x.wakeLead then createLinked 240 .wake (x.dueBefore x.wakeLead) u else u) :=
    fun u => .cond _ (createLinked_frame ..)
  have b : ∀ u : State, ChangesOnly [.tmr] u
      (if needsPrewarm x u then createLinked 241 .prewarm (x.dueBefore ((x.prewarm.map (·.lead)).getD 0)) u else u) :=
    fun u => .cond _ (createLinked_frame ..)
  exact ((a s).comp (b _)).comp (createLinked_frame ..)

theorem beginSession_frame (x d) (s : State) : ChangesOnly [.duty, .tmr, .lgt, .ntq] s (beginSession x d s) := by
  unfold beginSession
  exact (((frame_duty ..).trans (createEntries_frame ..) (rs := [.duty, .tmr])).trans (post_frame ..)
    (rs := [.duty, .tmr, .ntq])).trans (reevaluate_frame ..)

theorem endSession_frame (x d) (s : State) : ChangesOnly [.duty, .tmr, .lgt, .ntq] s (endSession x d s) := by
  unfold endSession; exact (closeSession_frame ..).comp (reevaluate_frame ..)

theorem key4Long_frame (s : State) : ChangesOnly [.duty, .tmr, .lgt, .ntq] s (key4Long s) := by
  unfold key4Long; dsimp only
  repeat' split
  all_goals first
    | exact .refl s
    | exact endSession_frame ..
    | exact beginSession_frame ..

theorem wakeFired_frame (s : State) : ChangesOnly [.lgt, .ntq] s (wakeFired s) := by
  unfold wakeFired; split
  · exact requestWake_frame ..
  · exact .refl s

theorem restEndFired_frame (s : State) : ChangesOnly [.duty, .ntq] s (restEndFired s) := by
  unfold restEndFired; split
  · exact (frame_duty ..).trans (post_frame ..)
  · exact .refl s

/-! ### Firing -/

theorem firedStart_frame (t m) (s : State) : ChangesOnly [.htr, .out, .ntq] s (firedStart t m s).2 := by
  unfold firedStart; split
  · exact .refl s
  · exact tryStart_frame ..

theorem performAction_frame (a) (s : State) :
    ChangesOnly [.htr, .cool, .out, .lgt, .duty, .ntq] s (performAction a s).2 := by
  unfold performAction
  repeat' split
  all_goals first
    | exact .refl s
    | exact (firedStart_frame ..).mono
    | exact (tryStop_frame s).mono
    | exact (tryCooling_frame ..).mono
    | exact (trySetLight_frame ..).mono
    | exact (requestBetween_frame ..).mono
    | exact (wakeFired_frame s).mono
    | exact (restEndFired_frame s).mono

theorem fireEntry_frame (e) (s : State) :
    ChangesOnly [.htr, .cool, .out, .lgt, .duty, .tmr, .ntq] s (fireEntry e s) := by
  unfold fireEntry
  exact ((frame_tmr ..).trans (performAction_frame ..) (rs := [.htr, .cool, .out, .lgt, .duty, .tmr, .ntq])).trans
    (post_frame ..)

theorem moveLinked_frame (i d) (s : State) :
    ChangesOnly [.htr, .cool, .out, .lgt, .duty, .tmr, .ntq] s (moveLinked i d s) := by
  unfold moveLinked; dsimp only
  repeat' split
  all_goals first
    | exact (moveDue_frame ..).mono
    | exact (moveDue_frame ..).trans (fireEntry_frame ..)

theorem moveEntries_frame (x) (s : State) :
    ChangesOnly [.htr, .cool, .out, .lgt, .duty, .tmr, .ntq] s (moveEntries x s) := by
  unfold moveEntries; exact ((moveLinked_frame ..).comp (moveLinked_frame ..)).comp (moveLinked_frame ..)

/-! ### Reserve account -/

theorem refill_frame (d) (s : State) : ChangesOnly [.rsv, .ntq] s (refill d s) := by
  unfold refill; exact (frame_rsv ..).trans (post_frame ..)

theorem handStep_frame (st) (s : State) : ChangesOnly [.htr, .cool, .out, .lgt, .ntq] s (handStep st s) := by
  unfold handStep; split
  · exact (heaterDegrade_frame ..).mono
  · exact (heaterShed_frame s).mono
  · exact (coolingDegrade_frame ..).mono
  · exact (coolingShed_frame s).mono
  · exact (lightDegrade_frame ..).mono
  · exact (lightShed_frame ..).mono
  · exact (lightDegrade_frame ..).mono
  · exact (lightShed_frame ..).mono

theorem handRestore_frame (st) (s : State) : ChangesOnly [.htr, .cool, .out, .lgt] s (handRestore st s) := by
  unfold handRestore; split
  · exact (heaterDegrade_frame ..).mono
  · exact .refl s
  · exact (coolingDegrade_frame ..).mono
  · exact (coolingUnshed_frame s).mono
  · exact (lightDegrade_frame ..).mono
  · exact (lightUnshed_frame ..).mono
  · exact (lightDegrade_frame ..).mono
  · exact (lightUnshed_frame ..).mono

theorem applyStep_frame (c) (s : State) : ChangesOnly [.htr, .cool, .out, .lgt, .rsv, .ntq] s (applyStep c s) := by
  unfold applyStep; split
  · exact .refl s
  · exact ((frame_rsv ..).trans (handStep_frame ..) (rs := [.htr, .cool, .out, .lgt, .rsv, .ntq])).trans
      (post_frame ..)

theorem applySteps_frame (c n) (s : State) : ChangesOnly [.htr, .cool, .out, .lgt, .rsv, .ntq] s (applySteps c n s) := by
  induction n generalizing s with
  | zero => exact .refl s
  | succ n ih => exact (applyStep_frame c s).comp (ih _)

theorem applyRest_frame (c) (s : State) : ChangesOnly [.htr, .cool, .out, .lgt, .rsv, .ntq] s (applyRest c s) :=
  applySteps_frame ..

theorem applyAlerted_frame (f : State → State) (s : State)
    (h : ChangesOnly [.htr, .cool, .out, .lgt, .rsv, .ntq] s (f s)) :
    ChangesOnly [.htr, .cool, .out, .lgt, .rsv, .ntq] s (applyAlerted f s) := by
  unfold applyAlerted; exact .cond _ (h.trans (requestAlert_frame ..))

theorem restoreStep_frame (s : State) : ChangesOnly [.htr, .cool, .out, .lgt, .rsv, .ntq] s (restoreStep s) := by
  unfold restoreStep; split
  · exact .refl s
  · exact ((frame_rsv ..).trans (handRestore_frame ..) (rs := [.htr, .cool, .out, .lgt, .rsv])).trans (post_frame ..)

theorem account_frame (s : State) : ChangesOnly [.rsv] s (account s) := frame_rsv ..
theorem keepRestoreHold_frame (s : State) : ChangesOnly [.rsv] s (keepRestoreHold s) := frame_rsv ..

theorem accountingSecond_frame (s : State) :
    ChangesOnly [.htr, .cool, .out, .lgt, .rsv, .ntq] s (accountingSecond s) := by
  unfold accountingSecond; dsimp only
  repeat' split
  all_goals first
    | exact (account_frame s).trans (applyAlerted_frame _ _ (applyRest_frame ..))
    | exact (account_frame s).trans (applyAlerted_frame _ _ (applyStep_frame ..))
    | exact (account_frame s).trans (keepRestoreHold_frame _)

theorem bandToOwners_frame (o n a) (s : State) :
    ChangesOnly [.htr, .cool, .out, .lgt, .ntq] s (bandToOwners o n a s) := by
  have c : ∀ u : State, ChangesOnly [.lgt] u (if o = .cutoff then cutoffCleared u else u) :=
    fun u => .cond _ (cutoffCleared_frame u)
  unfold bandToOwners; dsimp only; split
  · exact .refl s
  · exact .refl s
  · exact (c s).trans (coolingBandStop_frame _)
  · split
    · exact ((coolingBandStop_frame s).trans (heaterShed_frame _) (rs := [.htr, .cool, .out, .ntq])).trans
        ((requestAlert_frame ..).trans (cutoffSet_frame _) (rs := [.lgt, .ntq, .out]))
    · exact ((coolingBandStop_frame s).trans (heaterShed_frame _) (rs := [.htr, .cool, .out, .ntq])).trans
        ((cutoffSet_frame _).trans (requestAlert_frame ..) (rs := [.lgt, .ntq, .out]))

theorem bandLadder_frame (o n) (s : State) : ChangesOnly [.htr, .cool, .out, .lgt, .rsv, .ntq] s (bandLadder o n s) := by
  unfold bandLadder
  repeat' split
  all_goals first
    | exact .refl s
    | exact applyAlerted_frame _ _ (applyStep_frame ..)
    | exact applyAlerted_frame _ _ (applyRest_frame ..)
    | exact applyRest_frame ..

theorem enterBand_frame (n b a) (s : State) : ChangesOnly [.htr, .cool, .out, .lgt, .rsv, .ntq] s (enterBand n b a s) := by
  have h : ∀ (o : Band) (u : State), ChangesOnly [.htr, .cool, .out, .lgt, .rsv, .ntq] u
      (if b then bandLadder o n (bandToOwners o n a u) else bandToOwners o n a (bandLadder o n u)) := by
    intro o u; split
    · exact (bandToOwners_frame ..).trans (bandLadder_frame ..)
    · exact (bandLadder_frame ..).trans (bandToOwners_frame ..)
  exact ((frame_rsv s _).trans (post_frame ..) (rs := [.rsv, .ntq])).trans (h _ _)

/-! ### Measurement unit -/

theorem sensorFaulted_frame (x) (s : State) : ChangesOnly [.htr, .cool, .out, .ntq] s (sensorFaulted x s) := by
  unfold sensorFaulted; split
  · exact (frame_htr ..).mono
  · exact (exchangerFault_frame s).mono
  · exact (fallbackSet_frame s).mono

theorem postSensorFault_frame (x) (s : State) : ChangesOnly [.ntq] s (postSensorFault x s) := post_frame ..
theorem setValidity_frame (x v) (s : State) : ChangesOnly [.meas] s (setValidity x v s) := frame_meas ..
theorem unhold_frame (x) (s : State) : ChangesOnly [.meas] s (unhold x s) := frame_meas ..

theorem judgeSensor_frame (x) (s : State) : ChangesOnly [.meas, .cool, .ntq] s (judgeSensor x s) := by
  have h : ∀ u : State, ChangesOnly [.cool] u (if x = .tsf then fallbackSet u else u) :=
    fun u => .cond _ (fallbackSet_frame u)
  unfold judgeSensor; split
  · exact (setValidity_frame ..).mono
  · exact ((setValidity_frame ..).trans (postSensorFault_frame ..) (rs := [.meas, .ntq])).trans (h _)

theorem handPress_frame (k p) (s : State) :
    ChangesOnly [.htr, .out, .duty, .tmr, .lgt, .ntq] s (handPress k p s) := by
  unfold handPress; split
  · exact (key3Press_frame s).mono
  · exact (key4Long_frame s).mono
  · exact (panelKey_frame ..).mono
  · exact (panelKey_frame ..).mono
  · exact (panelKey_frame ..).mono
  · exact .refl s

theorem classify_frame (k p) (s : State) : ChangesOnly [.htr, .out, .duty, .tmr, .lgt, .ntq] s (classify k p s) := by
  unfold classify; exact (post_frame ..).trans (handPress_frame ..)

theorem longPress_frame (k) (s : State) :
    ChangesOnly [.meas, .htr, .out, .duty, .tmr, .lgt, .ntq] s (longPress k s) := by
  unfold longPress; exact (setKey_frame ..).trans (classify_frame ..)

theorem repeatPress_frame (k) (s : State) :
    ChangesOnly [.meas, .htr, .out, .duty, .tmr, .lgt, .ntq] s (repeatPress k s) := by
  unfold repeatPress; exact (setKey_frame ..).trans (classify_frame ..)

theorem keyPressed_frame (k) (s : State) : ChangesOnly [.meas] s (keyPressed k s) := by
  unfold keyPressed; dsimp only; split <;> exact setKey_frame ..

theorem keyReleased_frame (k) (s : State) :
    ChangesOnly [.meas, .htr, .out, .duty, .tmr, .lgt, .ntq] s (keyReleased k s) := by
  have a : ∀ u : State, ChangesOnly [.meas, .htr, .out, .duty, .tmr, .lgt, .ntq] u
      (if longDue k u then longPress k u else if repeatDue k u then repeatPress k u else u) := by
    intro u
    repeat' split
    all_goals first
      | exact longPress_frame ..
      | exact repeatPress_frame ..
      | exact .refl u
  have b : ∀ (c : Bool) (u : State), ChangesOnly [.htr, .out, .duty, .tmr, .lgt, .ntq] u
      (if c then classify k .short u else u) := fun c u => .cond _ (classify_frame ..)
  exact ((a s).trans (setKey_frame ..) (rs := [.meas, .htr, .out, .duty, .tmr, .lgt, .ntq])).trans (b _ _)

theorem lidChanged_frame (o) (s : State) : ChangesOnly [.cool] s (lidChanged o s) := by
  unfold lidChanged
  repeat' split
  all_goals first
    | exact lidOpened_frame s
    | exact lidClosed_frame s
    | exact .refl s

theorem measure_frame (r) (s : State) : ChangesOnly [.meas] s (measure r s) :=
  (frame_meas s _).comp (frame_meas _ _)

theorem lidAtStart_frame (s : State) : ChangesOnly [.cool] s (lidAtStart s) := by
  unfold lidAtStart; exact .cond _ (lidChanged_frame true s)

/-! ### Sample set -/

theorem tickTimes_frame (s : State) : ChangesOnly [.htr, .cool, .lgt, .out, .ntq] s (tickTimes s) := by
  unfold tickTimes
  exact (((frame_cool s _).trans (heaterTick_frame _) (rs := [.htr, .cool])).trans
    ((lightsTick_frame _).trans (retryTick_frame _) (rs := [.lgt, .out])) (rs := [.htr, .cool, .lgt, .out])).trans
    (tickNtq_frame _)

theorem outputSet_frame (s : State) : ChangesOnly [.htr, .cool, .out, .lgt, .ntq, .sto] s (outputSet s) := by
  unfold outputSet
  exact (((((slots_frame s).comp (compensateSet_frame _)).comp (slewSet_frame _)).trans (overcurrents_frame _)
    (rs := [.htr, .cool, .out, .lgt, .ntq, .sto])).trans (openRunsSet_frame s _)
    (rs := [.htr, .cool, .out, .lgt, .ntq, .sto])).trans ((judgeFloor_frame _).comp (judgeThermal_frame _))

theorem supplyRuns_frame (s : State) : ChangesOnly [.rsv] s (supplyRuns s) := frame_rsv ..

theorem secondSet_frame (s : State) : ChangesOnly [.htr, .cool, .out, .lgt, .rsv, .ntq] s (secondSet s) := by
  unfold secondSet
  exact ((oneSecondMeans_frame s).trans (startCheckPass_frame _) (rs := [.cool, .out])).trans (accountingSecond_frame _)

theorem heaterAtSet_frame (b) (s : State) : ChangesOnly [.htr, .out, .lgt, .ntq, .sto] s (heaterAtSet b s) := by
  have h : ∀ u : State, ChangesOnly [.htr, .out, .ntq] u (if wholeSecond u then thermostatEvaluation u else u) :=
    fun u => .cond _ (thermostatEvaluation_frame u)
  exact (heaterSet_frame b s).trans (h _)

/-- A sample set leaves the rest clock, the timers, the link and the settings of the session alone. -/
theorem sampleTaken_frame (r) (s : State) :
    ChangesOnly [.meas, .htr, .cool, .out, .lgt, .rsv, .ntq, .sto] s (sampleTaken r s) := by
  have h : ∀ u : State, ChangesOnly [.htr, .cool, .out, .lgt, .rsv, .ntq] u (if wholeSecond u then secondSet u else u) :=
    fun u => .cond _ (secondSet_frame u)
  have a : ChangesOnly [.meas, .htr, .cool, .out, .lgt, .rsv, .ntq, .sto] s
      (supplyRuns (outputSet (lidAtStart (tickTimes (measure r s))))) :=
    ((((measure_frame r s).trans (tickTimes_frame _) (rs := [.meas, .htr, .cool, .lgt, .out, .ntq])).trans
      (lidAtStart_frame _) (rs := [.meas, .htr, .cool, .lgt, .out, .ntq])).trans (outputSet_frame _) (rs := [.meas, .htr, .cool, .out, .lgt, .ntq, .sto])).trans (supplyRuns_frame _)
  exact (((a.trans (h _) (rs := [.meas, .htr, .cool, .out, .lgt, .rsv, .ntq, .sto])).trans (heaterAtSet_frame ..)
    (rs := [.meas, .htr, .cool, .out, .lgt, .rsv, .ntq, .sto])).trans ((cutOutTest_frame _).trans (cutInTest_frame _) (rs := [.cool, .out, .ntq]))
    (rs := [.meas, .htr, .cool, .out, .lgt, .rsv, .ntq, .sto])).trans (lightsRefresh_frame _)

/-! ### Settings store -/

theorem startPending_frame (s : State) : ChangesOnly [.sto] s (startPending s) := by
  unfold startPending; exact .cond _ (frame_sto ..)

theorem completeWrite_frame (w o) (s : State) : ChangesOnly [.sto, .ntq] s (completeWrite w o s) := by
  unfold completeWrite
  exact ((frame_sto ..).trans (post_frame ..) (rs := [.sto, .ntq])).trans (startPending_frame _)

theorem completeCheck_frame (b) (s : State) : ChangesOnly [.sto, .ntq] s (completeCheck b s) := by
  unfold completeCheck; split
  all_goals exact ((frame_sto ..).trans (post_frame ..) (rs := [.sto, .ntq])).trans (startPending_frame _)

/-! ### Start-up -/

theorem postDefaulted_frame (b) (s : State) : ChangesOnly [.ntq] s (postDefaulted b s) := by
  unfold postDefaulted; split
  · exact post_frame ..
  · exact post_frame ..
  · exact .refl s
  · exact .refl s

theorem postDefaults_frame (s : State) : ChangesOnly [.ntq] s (postDefaults s) := by
  unfold postDefaults; exact .foldl _ (fun s b => postDefaulted_frame b s) ..

theorem restartQueue_frame (s : State) : ChangesOnly [.ntq] s (restartQueue s) := by
  unfold restartQueue; exact (frame_ntq ..).comp (post_frame ..)

theorem startOut_frame (s : State) : ChangesOnly [.out] s (startOut s) := frame_out ..
theorem startHeater_frame (s : State) : ChangesOnly [.htr] s (startHeater s) := frame_htr ..

theorem startCooling_frame (s : State) : ChangesOnly [.cool, .ntq] s (startCooling s) := by
  unfold startCooling; exact (frame_cool ..).trans (post_frame ..)

theorem startLights_frame (s : State) : ChangesOnly [.lgt] s (startLights s) := frame_lgt ..
theorem startReserve_frame (s : State) : ChangesOnly [.rsv] s (startReserve s) := frame_rsv ..
theorem startTimers_frame (s : State) : ChangesOnly [.tmr] s (startTimers s) := frame_tmr ..

theorem startOwners_frame (s : State) :
    ChangesOnly [.out, .htr, .cool, .lgt, .rsv, .tmr, .ntq] s (startOwners s) := by
  unfold startOwners
  exact (((startOut_frame s).trans (startHeater_frame _) (rs := [.out, .htr])).trans
    (((startLights_frame _).trans (startReserve_frame _) (rs := [.lgt, .rsv])).trans (startTimers_frame _)
      (rs := [.lgt, .rsv, .tmr])) (rs := [.out, .htr, .lgt, .rsv, .tmr])).trans
    ((startCooling_frame _).trans (postDefaults_frame _) (rs := [.cool, .ntq]))

theorem postLockoutHeld_frame (s : State) : ChangesOnly [.ntq] s (postLockoutHeld s) := by
  unfold postLockoutHeld; exact .cond _ (post_frame ..)

theorem reinitCurrents_frame (s : State) : ChangesOnly [.meas] s (reinitCurrents s) := frame_meas ..

theorem reinitCooling_frame (s : State) : ChangesOnly [.cool, .ntq] s (reinitCooling s) := by
  have h : ∀ u : State, ChangesOnly [.cool] u (if coolingFitted u && u.meas.lid.level then lidOpened u else u) :=
    fun u => .cond _ (lidOpened_frame u)
  exact ((frame_cool s _).trans (startCooling_frame _) (rs := [.cool, .ntq])).trans (h _)

theorem reinitReserve_frame (s : State) :
    ChangesOnly [.htr, .cool, .out, .lgt, .rsv, .ntq] s (reinitReserve s) := by
  unfold reinitReserve; dsimp only; split
  · exact (frame_rsv ..).trans (applyRest_frame ..)
  · exact (frame_rsv ..).trans (applyRest_frame ..)
  · exact (frame_rsv ..).mono
  · exact (frame_rsv ..).mono

/-! ### Command link -/

theorem postLost_frame (b) (s : State) : ChangesOnly [.ntq] s (postLost b s) := by
  unfold postLost; exact .cond _ ((frame_ntq ..).comp (post_frame ..))

theorem buildReject_frame (r c) (s : State) : ChangesOnly [.lnk, .ntq] s (buildReject r c s) := by
  unfold buildReject; exact (frame_ntq s _).trans (frame_lnk ..)

theorem checksumError_frame (c) (s : State) : ChangesOnly [.lnk, .ntq] s (checksumError c s) := by
  unfold checksumError; exact (frame_lnk s _).trans (buildReject_frame ..)

theorem dropPartial_frame (s : State) : ChangesOnly [.lnk] s (dropPartial s) := frame_lnk ..
theorem withRx_frame (s : State) (x) : ChangesOnly [.lnk] s (s.withRx x) := frame_lnk ..

/-- A posted notice is combined into its record, appended, or counted as lost (R166). -/
theorem post_cases (q : Ntq) (now k d v) :
    (q.records.any (·.same k) = true ∧
      q.post now k d v =
        { q with records := q.records.map fun r => if r.same k then r.combine d v else r }) ∨
      (q.records.any (·.same k) = false ∧ q.records.length < 32 ∧
        q.post now k d v = { q with records := q.records ++ [⟨k, noticeSource k, d, v, 1, now⟩] }) ∨
      (q.records.any (·.same k) = false ∧ 32 ≤ q.records.length ∧
        q.post now k d v = { q with lost := satSucc 255 q.lost }) := by
  unfold Ntq.post
  by_cases h : q.records.any (·.same k) = true
  · exact .inl ⟨h, if_pos h⟩
  · rw [if_neg h]
    by_cases g : q.records.length < 32
    · exact .inr (.inl ⟨by simpa using h, g, if_pos g⟩)
    · exact .inr (.inr ⟨by simpa using h, Nat.le_of_not_lt g, if_neg g⟩)

/-- A command to a part that is out of reset has the effect of its meaning. -/
theorem live_awake {s : State} (h : s.sys.phase ≠ .inReset) (f : State → State) : s.live f = .next (f s) := by
  unfold State.live; rw [if_neg h]

/-- A command to a part held in reset does nothing (log 27). -/
theorem live_inReset {s : State} (h : s.sys.phase = .inReset) (f : State → State) : s.live f = .next s := by
  unfold State.live; rw [if_pos h]

theorem whenDue_true (s : State) (f : State → State) : whenDue true s f = f s := rfl
theorem whenDue_false (s : State) (f : State → State) : whenDue false s f = s := rfl

/-- The checks every fixed-length request begins with, in their order. -/
theorem checked_ok {n : Nat} {p : List Byte} {ok : Bool} {s : State} (f : State → Answer) (hl : p.length = n)
    (hf : ok = true) (hs : s.settling = false) : checked n p ok s f = f s := by
  simp [checked, hl, hf, hs]

/-- A frame that arrives with the work free is dispatched. -/
theorem arrive_free {s : State} {f : Frame} (h : s.lnk.work = none) : arrive f s = takeIntoWork f s := by
  unfold arrive; rw [h]

@[simp] theorem requestBetween_ntq (p : Pattern) (s : State) : (requestBetween p s).ntq = (requestPattern p s).ntq := rfl
@[simp] theorem requestBetween_light (p : Pattern) (s : State) (l : Light) :
    (requestBetween p s).light l = (requestPattern p s).light l := rfl
@[simp] theorem requestBetween_chimeDone (p : Pattern) (s : State) :
    (requestBetween p s).lgt.chimeDone = (requestPattern p s).lgt.chimeDone := rfl

/-- When the light part of WAKE is over (R96, log 72). -/
theorem partOver_wake (k : Part) (s : State) (h : k.pattern = .wake) :
    partOver k .lower s = (k.ramp.isNone && s.lgt.chimeDone && !s.lgt.chimeFresh) := by
  simp [partOver, isWakeLight, h]

/-- What the leaving of a part does (R95, R96): its notice, and the chime-done flag for the CHIME part of WAKE. -/
theorem partLeaves_eq (pat : Pattern) (l : Light) (out : PartOutcome) (s : State) :
    partLeaves pat l out s =
      { s with
        ntq := s.ntq.post s.tmr.seconds .alertPlayed (partOutcomeCode out)
          (16 * (patternNumber pat : Int) + consumerNumber (lightConsumer l))
        lgt := { s.lgt with chimeDone := s.lgt.chimeDone || (pat == .wake && l == .chime) } } := by
  unfold partLeaves
  dsimp only
  split
  · rename_i h
    simp [h.1, h.2, post]
  · rename_i h
    have : (pat == .wake && l == .chime) = false := by simp only [Bool.and_eq_false_iff, beq_eq_false_iff_ne]; tauto
    simp [this, post]

/-- What the start of a part does (R95): the light's record, and the notice of a program that it preempts. -/
theorem startPart_eq (pat : Pattern) (l : Light) (s : State) :
    startPart pat l s =
      { s with
        lgt := { s.lgt with
          recs := s.lgt.recs.set l { s.light l with
            active := none, ramp := none, playing := some ⟨pat, 0, partRamp pat l s⟩, present := firstLevel pat l } }
        ntq :=
          match (s.light l).active with
          | some a =>
            s.ntq.post s.tmr.seconds .programEnd (endReasonCode .preempted)
              (256 * (consumerNumber (lightConsumer l) : Int) + a.prog.tag)
          | none => s.ntq } := by
  unfold startPart
  dsimp only
  cases (s.light l).active <;> rfl

/-- What the begin of a step that the program has does to the record. -/
theorem beginStep_some {p : Program} {n : Nat} {st : PStep} (r : LightRec) (run : Nat) (h : p.steps[n - 1]? = some st) :
    r.beginStep p run n =
      { r with
        ramp := none
        present := if st.ramp = 0 then st.level else r.present
        active := some ⟨p, run, n, if st.ramp = 0 then .hold 0 else .ramp ⟨r.present, st.level, st.ramp, 0⟩, 0⟩ } := by
  simp only [LightRec.beginStep, h, Option.getD_some]
  split <;> rfl

/-- In fallback the step is MID, or HIGH under an open lid without the eco cap. -/
theorem chosenStep_fallback {s : State} (h : s.cool.fallback = true) :
    chosenStep s = if s.cool.lidOpen = true ∧ s.cool.degraded = false then .high else .mid := by
  unfold chosenStep baseStep
  cases s.cool.lidOpen <;> cases s.cool.degraded <;> simp [h]

/-- The step of a queue with a command in front. -/
theorem step_cons {s : State} {c : Instr} {rest : List Instr} (h : s.pending = c :: rest) :
    step s = exec c { s with pending := rest } := by
  unfold step; rw [h]

end Sys2Proof.Machine
end

