-- ==== Sys2Proof/Laws/Firing.lean ====
section
/-! SUPPORT. What a demand, the firing of a timer entry and the move of a linked entry do (R18, R116, R117, R133, R135). -/

namespace Sys2Proof.Machine

set_option Elab.async false

/-! ### Demands -/

/-- A demand for a consumer other than PUMP makes new demands at its record alone (R18). -/
theorem onlyDemanded_demand (c : Consumer) (m : Mode) (v : Option Nat) (s : State) (h : c ≠ .pump) :
    OnlyDemanded [c] s (demand c m v s) := by
  refine ⟨by simp [demand, h], fun d => ?_⟩
  by_cases g : d = c
  · subst g; simp [ChanRec.demanded]; cases m <;> simp
  · simp [g]

/-- A demand stands in the record of its consumer (R18). -/
theorem demands_demand (c : Consumer) (m : Mode) (v : Option Nat) (s : State) (h : m = .off → v = none) :
    ((demand c m v s).chan c).demands (m, v) := by
  cases m <;> simp_all [ChanRec.demanded, ChanRec.demands]

/-! ### The firing of an entry -/

/-- Only REST_END changes the duty clock. -/
theorem performAction_duty (a : Action) (u : State) (h : a ≠ .restEnd) : (performAction a u).2.duty = u.duty := by
  cases a <;> simp only [performAction] <;> first | (exact absurd rfl h) | skip
  all_goals first
   | (unfold firedStart; split <;> [rfl; exact ((tryStart_frame ..).same .duty (by decide))])
   | (split <;> [rfl; exact ((tryStop_frame ..).same .duty (by decide))])
   | exact ((tryCooling_frame ..).same .duty (by decide))
   | exact ((trySetLight_frame ..).same .duty (by decide))
   | exact ((requestBetween_frame ..).same .duty (by decide))
   | exact ((wakeFired_frame ..).same .duty (by decide))
   | (split <;> [skip; rfl]; unfold firedStart; split <;> [rfl; exact ((tryStart_frame ..).same .duty (by decide))])

/-- REST_END makes the session DUE (R116). -/
theorem performAction_restEnd_duty (u : State) (x : Session) (h : u.duty.session = some x) :
    (performAction .restEnd u).2.duty = { u.duty with session := some { x with state := .due } } := by
  simp [performAction, restEndFired, h]

/-- A firing changes the table as R133 states, and its action leaves it alone. -/
theorem fireEntry_tmr (e : Entry) (s : State) : (fireEntry e s).tmr = s.tmr.fired e := by
  unfold fireEntry; simp only [post_tmr]; exact (performAction_frame ..).same .tmr (by decide)

/-- A firing leaves the seconds counter. -/
theorem Timer.fired_seconds (t : Timer) (e) : (t.fired e).seconds = t.seconds := by unfold Timer.fired; split <;> rfl

/-- A firing leaves the entry of every other id. -/
theorem Timer.fired_find_ne (t : Timer) (e : Entry) {n} (h : n ≠ e.id) : (t.fired e).find n = t.find n := by
  unfold Timer.fired; split <;> first | exact find_put_ne _ _ h | exact find_remove_ne _ h

/-- A firing changes the session by REST_END alone, which makes it DUE (R116). -/
theorem fireEntry_session (e : Entry) (s : State) (x : Session) (h : s.duty.session = some x) :
    (fireEntry e s).duty =
      { s.duty with session := some (if e.action = .restEnd then { x with state := .due } else x) } := by
  unfold fireEntry
  by_cases g : e.action = .restEnd
  · simp only [post_duty, g, if_true]
    exact performAction_restEnd_duty _ x h
  · simp only [post_duty, g, if_false]
    rw [performAction_duty _ _ g, ← h]

/-! ### The move of a linked entry -/

/-- The move of an entry that is not in the table changes nothing (R135). -/
theorem moveLinked_none {id due : Nat} {s : State} (h : s.tmr.find id = none) : moveLinked id due s = s := by
  simp [moveLinked, moveDue, h]

/-- The move of an entry of the table: it stands at its new due time, or fires where that is not after the seconds
counter (R135). -/
theorem moveLinked_some {id due : Nat} {s : State} {e : Entry} (h : s.tmr.find id = some e) :
    moveLinked id due s =
      let moved : Entry := { e with due := some due }
      let u : State := { s with tmr := s.tmr.put moved }
      if due ≤ s.tmr.seconds then fireEntry moved u else u := by
  simp only [moveLinked, moveDue, h, find_put_due h, Entry.isDue, decide_eq_true_eq]
  rfl

/-- A move leaves the seconds counter. -/
theorem moveLinked_seconds (id due : Nat) (s : State) : (moveLinked id due s).tmr.seconds = s.tmr.seconds := by
  cases h : s.tmr.find id with
  | none => rw [moveLinked_none h]
  | some e =>
    rw [moveLinked_some h]; dsimp only
    split
    · rw [fireEntry_tmr, Timer.fired_seconds]; rfl
    · rfl

/-- A move leaves the entry of every other id (R135). -/
theorem moveLinked_find_ne {id n : Nat} (due : Nat) (s : State) (h : n ≠ id) :
    (moveLinked id due s).tmr.find n = s.tmr.find n := by
  cases g : s.tmr.find id with
  | none => rw [moveLinked_none g]
  | some e =>
    have hn : n ≠ ({ e with due := some due } : Entry).id := find_id g ▸ h
    rw [moveLinked_some g]; dsimp only
    split
    · rw [fireEntry_tmr, Timer.fired_find_ne _ _ hn, find_put_ne _ _ hn]
    · exact find_put_ne _ _ hn

/-- A moved linked entry stands at its new due time, or has fired and is gone (R135). -/
theorem moveLinked_find (id due : Nat) (s : State) (hl : ∀ e, s.tmr.find id = some e → e.form = .linked) :
    (moveLinked id due s).tmr.find id =
      if s.tmr.seconds < due then (s.tmr.find id).map fun e => { e with due := some due } else none := by
  cases g : s.tmr.find id with
  | none => simp [moveLinked_none g, g]
  | some e =>
    rw [moveLinked_some g]; dsimp only
    by_cases k : due ≤ s.tmr.seconds
    · rw [if_pos k, if_neg (by omega), fireEntry_tmr]
      simp only [Timer.fired, hl e g, find_id g, find_remove_self]
    · rw [if_neg k, if_pos (by omega)]
      simpa using find_put_due g (some due)

/-- A move changes the session by the firing of a REST_END alone (R116, R117). -/
theorem moveLinked_session (id due : Nat) (s : State) (x : Session) (h : s.duty.session = some x) :
    (moveLinked id due s).duty =
      { s.duty with
        session :=
          some
            (if ∃ e, s.tmr.find id = some e ∧ due ≤ s.tmr.seconds ∧ e.action = .restEnd then
              { x with state := .due }
            else x) } := by
  cases g : s.tmr.find id with
  | none => simp [moveLinked_none g, ← h]
  | some e =>
    rw [moveLinked_some g]; dsimp only
    by_cases k : due ≤ s.tmr.seconds
    · rw [if_pos k, fireEntry_session _ _ x (by exact h)]; simp [k]
    · simp [k, ← h]

end Sys2Proof.Machine
end

