-- ==== Sys2Proof/WellFormed.lean ====
section
/-! DEFINITION. The well-formed commands: those that a sender can give the part. -/

namespace Sys2Proof

/-- A request frame carries at most 48 payload bytes (Table 89). -/
def payloadFits (p : List Byte) : Bool := decide (p.length ≤ 48)

/-- The payload that a command carries, if it is a checked frame. -/
def Instr.framePayload : Instr → Option (List Byte)
  | .unknownKind _ _ p => some p
  | .status _ p => some p
  | .readMeasurements _ p => some p
  | .takeNotices _ p => some p
  | .reinitialise _ p => some p
  | .setVehicleState _ p => some p
  | .setExternalDraw _ p => some p
  | .setClock _ p => some p
  | .readClock _ p => some p
  | .setTimer _ p => some p
  | .clearTimer _ p => some p
  | .listTimers _ p => some p
  | .heaterStart _ p => some p
  | .heaterStop _ p => some p
  | .heaterSet _ p => some p
  | .heaterStatus _ p => some p
  | .clearHeaterLockout _ p => some p
  | .coolingSet _ p => some p
  | .coolingStatus _ p => some p
  | .setLight _ p => some p
  | .loadProgram _ p => some p
  | .cancelProgram _ p => some p
  | .lightStatus _ p => some p
  | .beginRest _ p => some p
  | .extendRest _ p => some p
  | .endRest _ p => some p
  | .dutyStatus _ p => some p
  | .readPeriods _ p => some p
  | .reserveStatus _ p => some p
  | .setAllowance _ p => some p
  | .resetAccount _ p => some p
  | .channelStatus _ p => some p
  | .clearChannelFault _ p => some p
  | .readSetting _ p => some p
  | .writeSetting _ p => some p
  | .commitBlock _ p => some p
  | .checkStore _ p => some p
  | .storeStatus _ p => some p
  | .lockDutyRules _ p => some p
  | _ => none

/-- The KIND of an UNKNOWN_KIND frame is not in Table 93 (R161). -/
def kindUnknown (kind : Byte) : Bool := (Machine.requestOf kind.toNat).isNone

/-- LONG presses are of KEY0, KEY3 and KEY4; REPEATs of KEY1 and KEY2 (R11, R12). -/
def keyFits (repeating : Bool) (k : Key) : Bool := Machine.repeats k == repeating

/-- Open load is judged on every consumer but PUMP (R29). -/
def openLoadFits (c : Consumer) : Bool := c != .pump

/-- A command is well formed. -/
def Instr.wf (i : Instr) : Bool :=
  (match i.framePayload with
   | some p => payloadFits p
   | none => true) &&
    match i with
    | .unknownKind _ kind _ => kindUnknown kind
    | .keyLongPress k => keyFits false k
    | .keyRepeat k => keyFits true k
    | .openLoadSet c => openLoadFits c
    | .openLoadClear c => openLoadFits c
    | _ => true

end Sys2Proof
end

