-- ==== Sys2Proof/Laws/PerInstr.lean ====
section
/-! SUPPORT. One fact of every command as syntax: a well-formed command that is a checked frame carries at most the 48
payload bytes of Table 89. -/

namespace Sys2Proof.Laws.Carries

/-- The statement of the family. -/
def Statement (i : Instr) : Prop := i.wf = true → ∀ p, i.framePayload = some p → p.length ≤ 48

/-- The well-formedness of a command says that its payload fits. -/
theorem holds (i : Instr) : Statement i := by
  intro h p hp
  unfold Instr.wf at h
  rw [hp, Bool.and_eq_true] at h
  exact of_decide_eq_true h.1

theorem powerOnReset : Statement .powerOnReset := holds _
theorem pinReset : Statement .pinReset := holds _
theorem resetRelease (linksel defsel  : Bool) : Statement (.resetRelease linksel defsel) := holds _
theorem blockLoadDone : Statement .blockLoadDone := holds _
theorem settlingEnd : Statement .settlingEnd := holds _
theorem sampleSet (raw  : RawSet) : Statement (.sampleSet raw) := holds _
theorem sensorFault (sensor  : Sensor) : Statement (.sensorFault sensor) := holds _
theorem sensorOk (sensor  : Sensor) : Statement (.sensorOk sensor) := holds _
theorem debounceChange (input  : Input) : Statement (.debounceChange input) := holds _
theorem keyLongPress (key  : Key) : Statement (.keyLongPress key) := holds _
theorem keyRepeat (key  : Key) : Statement (.keyRepeat key) := holds _
theorem pumpFastReading (raw  : Raw) : Statement (.pumpFastReading raw) := holds _
theorem retryExpiry (consumer  : Consumer) : Statement (.retryExpiry consumer) := holds _
theorem tripWindowClose (consumer  : Consumer) : Statement (.tripWindowClose consumer) := holds _
theorem hitPhaseEnd : Statement .hitPhaseEnd := holds _
theorem holdPhaseEnd : Statement .holdPhaseEnd := holds _
theorem openLoadSet (consumer  : Consumer) : Statement (.openLoadSet consumer) := holds _
theorem openLoadClear (consumer  : Consumer) : Statement (.openLoadClear consumer) := holds _
theorem checkEnd : Statement .checkEnd := holds _
theorem glowEnd : Statement .glowEnd := holds _
theorem primeEnd : Statement .primeEnd := holds _
theorem ignitionWindowExpiry : Statement .ignitionWindowExpiry := holds _
theorem strokeDue : Statement .strokeDue := holds _
theorem peffRampEnd : Statement .peffRampEnd := holds _
theorem stabiliseGlowOff : Statement .stabiliseGlowOff := holds _
theorem stabiliseEnd : Statement .stabiliseEnd := holds _
theorem runTenMinutes : Statement .runTenMinutes := holds _
theorem idleOff : Statement .idleOff := holds _
theorem restartWaitExpiry : Statement .restartWaitExpiry := holds _
theorem runTimerExpiry : Statement .runTimerExpiry := holds _
theorem purgeBurnOffEnd : Statement .purgeBurnOffEnd := holds _
theorem purgeMaximum : Statement .purgeMaximum := holds _
theorem holdTimeLimit : Statement .holdTimeLimit := holds _
theorem minOffEnd : Statement .minOffEnd := holds _
theorem cutIn : Statement .cutIn := holds _
theorem startCheckFail : Statement .startCheckFail := holds _
theorem runningSixtySeconds : Statement .runningSixtySeconds := holds _
theorem speedStepChoice : Statement .speedStepChoice := holds _
theorem lidOpen120 : Statement .lidOpen120 := holds _
theorem fallbackOnEnd : Statement .fallbackOnEnd := holds _
theorem lightRampEnd (light  : Light) : Statement (.lightRampEnd light) := holds _
theorem programStepEnd (light  : Light) : Statement (.programStepEnd light) := holds _
theorem alertPartEnd (light  : Light) : Statement (.alertPartEnd light) := holds _
theorem wakeChimeTimerExpiry : Statement .wakeChimeTimerExpiry := holds _
theorem timerSecond : Statement .timerSecond := holds _
theorem timerEntryFire : Statement .timerEntryFire := holds _
theorem vehicleHoldExpiry : Statement .vehicleHoldExpiry := holds _
theorem vehicleStale : Statement .vehicleStale := holds _
theorem limitRepeat (limit  : Limit) : Statement (.limitRepeat limit) := holds _
theorem chargeStateChange : Statement .chargeStateChange := holds _
theorem restoreStep : Statement .restoreStep := holds _
theorem lowPaceStep : Statement .lowPaceStep := holds _
theorem bandChange (bandFirst alertFirst  : Bool) : Statement (.bandChange bandFirst alertFirst) := holds _
theorem stretchExpiry (cls  : Stretch) : Statement (.stretchExpiry cls) := holds _
theorem linkTimerExpiry : Statement .linkTimerExpiry := holds _
theorem receiveCharacter (byte  : Byte) (stopHigh  : Bool) : Statement (.receiveCharacter byte stopHigh) := holds _
theorem linkGapTimeout : Statement .linkGapTimeout := holds _
theorem frameSent : Statement .frameSent := holds _
theorem unknownKind (ctr kind  : Byte) (payload  : List Byte) : Statement (.unknownKind ctr kind payload) := holds _
theorem status (ctr  : Byte) (payload  : List Byte) : Statement (.status ctr payload) := holds _
theorem readMeasurements (ctr  : Byte) (payload  : List Byte) : Statement (.readMeasurements ctr payload) := holds _
theorem takeNotices (ctr  : Byte) (payload  : List Byte) : Statement (.takeNotices ctr payload) := holds _
theorem reinitialise (ctr  : Byte) (payload  : List Byte) : Statement (.reinitialise ctr payload) := holds _
theorem setVehicleState (ctr  : Byte) (payload  : List Byte) : Statement (.setVehicleState ctr payload) := holds _
theorem setExternalDraw (ctr  : Byte) (payload  : List Byte) : Statement (.setExternalDraw ctr payload) := holds _
theorem setClock (ctr  : Byte) (payload  : List Byte) : Statement (.setClock ctr payload) := holds _
theorem readClock (ctr  : Byte) (payload  : List Byte) : Statement (.readClock ctr payload) := holds _
theorem setTimer (ctr  : Byte) (payload  : List Byte) : Statement (.setTimer ctr payload) := holds _
theorem clearTimer (ctr  : Byte) (payload  : List Byte) : Statement (.clearTimer ctr payload) := holds _
theorem listTimers (ctr  : Byte) (payload  : List Byte) : Statement (.listTimers ctr payload) := holds _
theorem heaterStart (ctr  : Byte) (payload  : List Byte) : Statement (.heaterStart ctr payload) := holds _
theorem heaterStop (ctr  : Byte) (payload  : List Byte) : Statement (.heaterStop ctr payload) := holds _
theorem heaterSet (ctr  : Byte) (payload  : List Byte) : Statement (.heaterSet ctr payload) := holds _
theorem heaterStatus (ctr  : Byte) (payload  : List Byte) : Statement (.heaterStatus ctr payload) := holds _
theorem clearHeaterLockout (ctr  : Byte) (payload  : List Byte) : Statement (.clearHeaterLockout ctr payload) := holds _
theorem coolingSet (ctr  : Byte) (payload  : List Byte) : Statement (.coolingSet ctr payload) := holds _
theorem coolingStatus (ctr  : Byte) (payload  : List Byte) : Statement (.coolingStatus ctr payload) := holds _
theorem setLight (ctr  : Byte) (payload  : List Byte) : Statement (.setLight ctr payload) := holds _
theorem loadProgram (ctr  : Byte) (payload  : List Byte) : Statement (.loadProgram ctr payload) := holds _
theorem cancelProgram (ctr  : Byte) (payload  : List Byte) : Statement (.cancelProgram ctr payload) := holds _
theorem lightStatus (ctr  : Byte) (payload  : List Byte) : Statement (.lightStatus ctr payload) := holds _
theorem beginRest (ctr  : Byte) (payload  : List Byte) : Statement (.beginRest ctr payload) := holds _
theorem extendRest (ctr  : Byte) (payload  : List Byte) : Statement (.extendRest ctr payload) := holds _
theorem endRest (ctr  : Byte) (payload  : List Byte) : Statement (.endRest ctr payload) := holds _
theorem dutyStatus (ctr  : Byte) (payload  : List Byte) : Statement (.dutyStatus ctr payload) := holds _
theorem readPeriods (ctr  : Byte) (payload  : List Byte) : Statement (.readPeriods ctr payload) := holds _
theorem reserveStatus (ctr  : Byte) (payload  : List Byte) : Statement (.reserveStatus ctr payload) := holds _
theorem setAllowance (ctr  : Byte) (payload  : List Byte) : Statement (.setAllowance ctr payload) := holds _
theorem resetAccount (ctr  : Byte) (payload  : List Byte) : Statement (.resetAccount ctr payload) := holds _
theorem channelStatus (ctr  : Byte) (payload  : List Byte) : Statement (.channelStatus ctr payload) := holds _
theorem clearChannelFault (ctr  : Byte) (payload  : List Byte) : Statement (.clearChannelFault ctr payload) := holds _
theorem readSetting (ctr  : Byte) (payload  : List Byte) : Statement (.readSetting ctr payload) := holds _
theorem writeSetting (ctr  : Byte) (payload  : List Byte) : Statement (.writeSetting ctr payload) := holds _
theorem commitBlock (ctr  : Byte) (payload  : List Byte) : Statement (.commitBlock ctr payload) := holds _
theorem checkStore (ctr  : Byte) (payload  : List Byte) : Statement (.checkStore ctr payload) := holds _
theorem storeStatus (ctr  : Byte) (payload  : List Byte) : Statement (.storeStatus ctr payload) := holds _
theorem lockDutyRules (ctr  : Byte) (payload  : List Byte) : Statement (.lockDutyRules ctr payload) := holds _
theorem storeWriteDone : Statement .storeWriteDone := holds _
theorem storeReadbackDone (matched  : Bool) : Statement (.storeReadbackDone matched) := holds _
theorem storeCheckDone (block3First  : Bool) : Statement (.storeCheckDone block3First) := holds _
theorem rejectSent : Statement .rejectSent := holds _

end Sys2Proof.Laws.Carries
end

