-- ==== Sys2Proof/Tests/Slice0.lean ====
section
/-! SUPPORT. Small tests: the well-formedness checks, a few values worked out by hand from the spec, and for each
obligation with hypotheses states that meet them, at the boundaries of their ranges. -/

namespace Sys2Proof.Tests

open Sys2Proof.Machine

/-! ### Well-formedness: each check turns an ill-formed command away -/

theorem test_wf_payload_too_long : (Instr.status 0 (List.replicate 49 0)).wf = false := by decide
theorem test_wf_payload_longest : (Instr.status 0 (List.replicate 48 0)).wf = true := by decide
theorem test_wf_kind_known : (Instr.unknownKind 0 0x45 []).wf = false := by decide
theorem test_wf_kind_unknown : (Instr.unknownKind 0 0x46 []).wf = true := by decide
theorem test_wf_long_press_of_repeating_key : (Instr.keyLongPress .key1).wf = false := by decide
theorem test_wf_repeat_of_plain_key : (Instr.keyRepeat .key0).wf = false := by decide
theorem test_wf_repeat_of_repeating_key : (Instr.keyRepeat .key2).wf = true := by decide
theorem test_wf_open_load_of_pump : (Instr.openLoadSet .pump).wf = false ∧ (Instr.openLoadClear .pump).wf = false := by
  decide
theorem test_no_row_gives_bits : decodeTableWord 8 0 = none ∧ State.withFetchWord State.reset 8 0 = State.reset :=
  ⟨rfl, rfl⟩

/-! ### States for the tests -/

/-- A running part with the default map, nothing in progress. -/
def base : State :=
  { State.reset with
    sys := ⟨.running, .powerOn, false, 10⟩
    out := { Out.start with mapInForce := defaultMap, recs := recsOf defaultMap false }
    ntq := ⟨[], 0, none, none, none⟩ }

/-- `base` with another heater, cooling record, duty clock, reserve account or link. -/
def withHtr (h : Heater) : State := { base with htr := h }
def withCool (c : Cooling) : State := { base with cool := c }
def withDuty (d : Duty) : State := { base with duty := d }
def withRsv (r : Reserve) : State := { base with rsv := r }
def withLnk (k : Link) : State := { base with lnk := k }

/-- A PUMP record in a stroke, at 100 ms. -/
def stroking (p : Pulse) : State :=
  let s := base.setChan .pump { base.chan .pump with mode := .stroke, state := .driving, computed := 1000, applied := 1000 }
  { s.setStroke { Stroke.start with pulse := some p } with meas := { Meas.start with sets := 10, vbatF := 24000 } }

/-- A pulse that began at 95 ms. -/
def pulse : Pulse := ⟨95, 15, 20, 6000, 1500, 300, .hit, 3, 0, false, false, false⟩

/-- A sensor in a validity with its two runs. -/
def sensorIn (v : Validity) (out inn : Nat) : SensorState := ⟨[200], out, inn, true, v, 200⟩

/-- A quiet set at a supply (in 10 mV), with one reading on channel 2, which is the fan's, and the lid level. -/
def quiet (v i : Nat) (lid : Bool) : RawSet :=
  let z : Raw := 0
  ⟨BitVec.ofNat 12 v, ⟨z, z, BitVec.ofNat 12 i, z, z, z, z, z⟩, 700, 500, 550, 700, false, lid,
    ⟨true, true, true, true, true⟩, false⟩

/-- A measurement unit with a full supply ring of one value, before the set of a number. -/
def supplied (n v : Nat) : Meas :=
  { Meas.start with sets := n - 1, vbatRing := List.replicate 15 v, vbatF := v, tsc := sensorIn .valid 0 10 }

/-- The fan driven at 500 ‰ with a count of trips, before set 100. -/
def fanDriven (trips : Nat) (open' : Option Nat) : State :=
  let s := { base with meas := supplied 100 24000 }
  s.setChan .fan { s.chan .fan with
    mode := .duty, state := .driving, demand := some 900, computed := 900, applied := 500, trips := trips
    windowStart := open' }

/-- The state after a command. -/
def run (c : Instr) (s : State) : State := after c s

/-! ### Values worked out by hand -/

/-- The CRC-8 of the bytes of "123456789" (polynomial 07, initial value 0). -/
theorem test_crc8 : crc8 [0x31, 0x32, 0x33, 0x34, 0x35, 0x36, 0x37, 0x38, 0x39] = 0xF4 := by decide +kernel

/-- The CRC-16 of the same bytes (polynomial 1021, initial value FFFF). -/
theorem test_crc16 : crc16 [0x31, 0x32, 0x33, 0x34, 0x35, 0x36, 0x37, 0x38, 0x39] = 0x29B1 := by decide +kernel

/-- Table 9: 500 mV is 0.0 °C on TSC, 400 mV is 0.0 °C on TSX, and TSX goes by 2.5 per mV, truncated toward zero. -/
theorem test_sensor_temp :
    sensorTemp .tsc 500 = 0 ∧ sensorTemp .tsf 100 = -400 ∧ sensorTemp .tsx 401 = 2 ∧ sensorTemp .tsx 399 = -2 := by
  decide

/-- R20: 12 V effective at a supply of 24 V is a quarter of the time. -/
theorem test_compensated : compensatedDuty 12000 24000 = 250 ∧ compensatedDuty 24000 24000 = 1000 := by decide

/-- R129: from second 0 of a minute its next occurrence lies a week ahead. -/
theorem test_occurrence : secondsTo 60 1 = 604800 ∧ secondsTo 59 1 = 1 := by decide

/-- R161: the first bytes of the STATUS reply: SYNC, LEN 13, CTR, KIND, OK. -/
theorem test_status_reply :
    (match (run (.status 7 []) base).lnk.tx with
     | some (.reply b) => (b.take 5, b.length)
     | _ => ([], 0)) = ([0x3C, 13, 7, 0x01, 0], 21) := by decide

/-- R158, R159: the frame of a STATUS request, character by character, is served. -/
theorem test_frame_received :
    let chk := crc8 [0, 9, 1]
    let send (s : State) (x : Byte) : State := run (.receiveCharacter x true) s
    ([0xC3, 0, 9, 1, chk].foldl send base).lnk.work = some ⟨9, 1, []⟩ := by decide +kernel

/-- R39: a start from OFF enters CHECK and demands FAN. -/
theorem test_heater_start :
    let s := run (.heaterStart 1 [200, 0, 60, 0, 0, 2]) base
    s.htr.state = .check ∧ s.htr.runTimer = .left 360000 ∧ (s.chan .fan).mode ≠ .off := by decide

/-- R28: the fourth trip within a window latches. -/
theorem test_fourth_trip :
    let r := { ChanRec.start [1] false with mode := .duty, state := .driving, trips := 3, windowStart := some 5 }
    (r.trip 9).state = .latched ∧ ({ r with trips := 2 }.trip 9).state = .tripped := by decide

/-- R114: BEGIN REST makes the linked entries and the REST record. -/
theorem test_begin_rest :
    let s := run (.beginRest 1 [60, 0, 10, 0, 0, 0, 0]) base
    s.tmr.table.map (·.id) = [240, 242] ∧ s.duty.current.kind = .rest := by decide

/-- R179: a part held in reset serves nothing. -/
theorem test_held_in_reset : run (.status 7 []) (run .powerOnReset base) = run .powerOnReset base := rfl

/-- R172: RESTARTED is the first record after the load of block 8. -/
theorem test_restarted :
    (run .blockLoadDone { State.reset with sys := { State.reset.sys with loads := 8 } }).ntq.records =
      [⟨.restarted, .ntq, 0, 0, 1, 0⟩] := by decide

/-- R6, R7: the set that completes the recovery of TSC adds its filtered value, not the held one. -/
theorem test_recovery_reading :
    let m := { Meas.start with sets := 5, tsc := { sensorIn .fault 0 9 with reported := 900 } }
    let t := run (.sampleSet (quiet 2400 0 false)) { base with meas := m }
    t.meas.tsc.inRun = 10 ∧ t.meas.secSum = 200 ∧ t.meas.cabMean = 200 ∧
      (run (.sensorOk .tsc) t).meas.tsc.reported = 200 := by decide +kernel

/-- R75, R67: the lid timer is 0 at the first set at which the lid is open, and 1 at the next. -/
theorem test_lid_open_at_reset :
    let s := run (.sampleSet (quiet 2400 0 true)) State.reset
    s.meas.lid.level = true ∧ s.cool.lidSets = some 0 ∧
      (run (.sampleSet (quiet 2400 0 true)) s).cool.lidSets = some 1 := by decide +kernel

/-- R100: a latch ends programs only, so a steady ramp goes on; with a program the steady level shows. -/
theorem test_latch_keeps_steady_ramp :
    let r := { LightRec.start 60 with steady := 80, present := 20, ramp := some ⟨0, 80, 1000, 25⟩ }
    let a : Active := ⟨⟨1, 1, [⟨50, 0, 1000⟩]⟩, 1, 1, .hold 1, 1⟩
    (lightLatched .lower (base.setLight .lower r)).light .lower = r ∧
      ((lightLatched .lower (base.setLight .lower { r with active := some a, ramp := none })).light .lower).present = 80 :=
  by decide +kernel

/-- R161, R7: the validity of TSX is its place in the list VALID, FAULT. -/
theorem test_validity_codes : encValidity true = [0] ∧ encValidity false = [1] := by decide

/-- R133, Table 76: an entry that starts the heater reports OK, and WRONG_STATE while the heater runs. -/
theorem test_fired_start :
    let e : Entry := ⟨7, .after 60, .heaterStart 200 60, some 60⟩
    let s := { base with tmr := ⟨60, false, 0, 0, [e], [7]⟩ }
    let u := { withHtr { Heater.start with state := .run } with tmr := s.tmr }
    (run .timerEntryFire s).htr.state = .check ∧
      (run .timerEntryFire s).ntq.records.map (fun r => (r.kind, r.detail, r.value)) =
        [(.heaterState, 1, 0), (.timerFired, 0, 7)] ∧
      (run .timerEntryFire u).ntq.records.map (·.detail) = [9] ∧ (run .timerEntryFire u).htr = u.htr := by decide +kernel

/-- R32, Table 26: the set that releases a hold leaves the record DRIVING with applied duty 0; the slew acts at the next. -/
theorem test_release_then_slew :
    let s := fanDriven 0 none
    let r : ChanRec := { s.chan .fan with state := .held, applied := 0 }
    let s := { s.setChan .fan r with meas := supplied 100 17000 }
    let t := run (.sampleSet (quiet 1700 0 false)) { s with out := { s.out with recs := s.out.recs.set .fan r, floorHold := true } }
    let u := run (.sampleSet (quiet 1700 0 false)) t
    (t.chan .fan).state = .driving ∧ (t.chan .fan).applied = 0 ∧
      (u.chan .fan).applied = movedToward (u.set.slewLimit .fan) 900 0 := by decide +kernel

/-- R58: the hold time starts at 0 when a hold comes in OFF, and it counts from the next set. -/
theorem test_hold_time_in_off :
    let s := { withHtr { Heater.start with holdSets := 7 } with meas := supplied 100 15990 }
    let t := run (.sampleSet (quiet 1599 0 false)) s
    holding t = true ∧ t.htr.holdSets = 0 ∧ (run (.sampleSet (quiet 1599 0 false)) t).htr.holdSets = 1 := by decide +kernel

/-- R70: after COOLING SET the cut-in waits for the test of the next sample set. -/
theorem test_cut_in_waits_for_a_set :
    let s := { withCool { Cooling.start with minOff := 0, fallback := true } with meas := supplied 50 24000 }
    let u := run (.coolingSet 1 [1, 40, 0]) s
    u.cool.state = .waiting ∧ (run .cutIn u).cool.state = .waiting ∧
      (run .cutIn (run (.sampleSet (quiet 2400 0 false)) u)).cool.state = .running := by decide +kernel

/-- R53, Table 42: a purge of 200 s whose maximum is written down to 130 s between two sets goes on until the next set has made
the maximum test. -/
theorem test_purge_maximum_waits_for_a_set :
    let s := { withHtr { Heater.start with state := .purge, purge := some ⟨.off, none, false, false, false, 20000⟩ } with
      meas := supplied 50 24000 }
    let u := run (.writeSetting 1 [2, 22, 130, 0, 0, 0]) s
    let v := run (.sampleSet (quiet 2400 0 false)) u
    u.set.purgeMax = 130 ∧ (run .purgeMaximum u).htr.state = .purge ∧ v.htr.state = .purge ∧ v.htr.purgeMaxed = true ∧
      (run .purgeMaximum v).htr.lockout.cause = some .purgeHot := by decide +kernel

/-- R178: LOCK DUTY RULES is answered ORDER while a commit of block 6 is in flight. -/
theorem test_lock_in_a_commit :
    let s := { base with sto := base.sto.begin .dutyRules false (blockDefaults .dutyRules) }
    s.sto.uncommitted.dutyRules = false ∧ s.sto.committing .dutyRules = true ∧
      (reqLockDutyRules [0, 0] s).result = .order := by decide

/-- R114: BEGIN REST while driving is answered WRONG_STATE. -/
theorem test_begin_rest_in_drive :
    let s := { withDuty { Duty.start with current := ⟨.drive, .open, 0, 0⟩, effective := .moving } with
      meas := { Meas.start with ign := ⟨true, 0⟩ } }
    let t := run (.beginRest 1 [60, 0, 10, 0, 0, 0, 0]) s
    t.duty = s.duty ∧ (match t.lnk.tx with | some (.reply b) => b[4]? | _ => none) = some 9 := by decide +kernel

/-- R11, R40: a SHORT press of KEY3 starts the heater at the release; R115: a LONG press of KEY4 begins and ends a session;
R87: KEY0 lights the lower lamp. -/
theorem test_key_effects :
    let s := base.setKey .key3 ⟨⟨true, 3⟩, .held, 1990, 800⟩
    let u := handPress .key4 .long base
    (run (.debounceChange (.key .key3)) s).htr.state = .check ∧ u.duty.session.isSome = true ∧
      (handPress .key4 .long u).duty.session = none ∧
      ((handPress .key0 .short base).light .lower).ramp = some ⟨0, 60, 500, 0⟩ := by decide +kernel

/-- R118, R96: END REST withdraws a playing WAKE with outcome CANCELLED before it reports. -/
theorem test_end_rest_withdraws_wake :
    let x : Session := ⟨.active, .request, 0, 60, 10, none⟩
    let s := (withDuty { Duty.start with session := some x }).setLight .chime
      { LightRec.start 100 with playing := some ⟨.wake, 0, none⟩ }
    (run (.endRest 1 []) s).ntq.records.map (fun r => (r.kind, r.detail, r.value)) =
      [(.alertPlayed, 3, 22), (.restShort, 0, 0), (.restEnd, 0, 0)] := by decide +kernel

/-- R179: the tenth load posts COOLING_STATE and the blocks that took their defaults. -/
theorem test_defaults_posted :
    let k := { State.reset.sto with loadResult := State.reset.sto.loadResult.set .chanMap .badCheck }
    let s := { State.reset with sys := ⟨.settling, .powerOn, true, 9⟩, sto := k }
    (run .blockLoadDone s).ntq.records.map (fun r => (r.kind, r.detail, r.value, r.count)) =
      [(.coolingState, 1, 11, 1), (.storeDefaulted, 9, 1, 2)] := by decide +kernel

/-- R22, R56: the four outcomes of a stroke, and the purge that a third missed stroke and a stroke without current give. -/
theorem test_stroke_outcomes :
    let s (st : HState) (p : Pulse) : State :=
      let s := stroking { p with start := 94 }
      { s.setStroke { s.out.stroke with miss := 2 } with htr := { Heater.start with state := st } }
    let f (st : HState) (p : Pulse) : Option Outcome × Nat × HState :=
      let t := run .hitPhaseEnd (s st p); (t.out.stroke.last, t.out.stroke.miss, t.htr.state)
    let e := { pulse with exceeded := true }
    f .run { e with dipSeen := true } = (some .confirmed, 0, .run) ∧ f .run e = (some .missed, 3, .purge) ∧
      f .run { e with lowSupply := true } = (some .unverified, 2, .run) ∧
      f .run pulse = (some .noCurrent, 2, .purge) ∧ f .prime pulse = (some .noCurrent, 2, .prime) := by decide +kernel

/-- R59: the restore of HEATER DEGRADE gives the fixed stage back in RUN. -/
theorem test_restore_heater_degrade :
    let r := { Reserve.start with ladder := [⟨.heater, .degrade⟩], stack := [⟨1, 0, 0⟩], restoreHold := 300 }
    let s := { withHtr { Heater.start with state := .run, mode := .fixed, fixedStage := 3, stage := 1 } with rsv := r }
    (run .restoreStep s).htr.stage = 3 ∧
      (run .restoreStep { s with htr := { s.htr with mode := .thermostat } }).htr.stage = 1 := by decide +kernel

/-- R155, R66: REINITIALISE in CRITICAL and CUTOFF applies the full ladder again, and a bad block 3 gives LOCKOUT. -/
theorem test_reinitialise_bands_and_block3 :
    let f (b : Band) : State := reinitReserve (withRsv { Reserve.start with band := b })
    let u := reinitHeater { base with sto := { base.sto with working := base.sto.working.set .heaterState heaterStateBad } }
    0 < (f .critical).rsv.ladder.length ∧ (f .critical).rsv.stack.length = (f .critical).rsv.ladder.length ∧
      (f .cutoff).rsv.stack.length = (f .critical).rsv.stack.length ∧ (f .cutoff).rsv.cutoffHold = true ∧
      (f .low).rsv.stack = [] ∧ u.htr.state = .lockout ∧ u.htr.lockout.cause = some .store := by decide +kernel

/-- R3, R6, R9: an on-current and its history, the cab second of the 100th set, and the first set's levels. -/
theorem test_set_records :
    let t := run (.sampleSet (quiet 2400 100 false)) (fanDriven 0 none)
    let u := run (.sampleSet (quiet 2400 0 true)) State.reset
    channelGet t.meas.onCurrent 2 = 500 ∧ channelGet t.meas.history 2 = [500] ∧ channelGet t.meas.onCurrent 3 = 0 ∧
      t.meas.cabRing.length = 1 ∧ t.meas.secSum = 0 ∧ u.meas.lid = ⟨true, 0⟩ ∧
      (run (.sampleSet (quiet 2400 0 false)) u).meas.lid = ⟨true, 1⟩ := by decide +kernel

/-! ### Hypotheses that are met -/

/-- The invariants hold in a state other than reset, and a step leads on from it. -/
theorem test_meets_invariants :
    let s := { base with pending := [Instr.timerSecond] }
    s.ntq.ok ∧ s.rsv.chargeOk ∧ s.rsv.stackOk ∧ s.tmr.ok ∧ (∃ t, step s = .next t) := by
  refine ⟨⟨by decide, by decide⟩, ⟨by decide, by decide⟩, ⟨by decide, by decide⟩,
    ⟨by decide, by decide, by decide, by decide⟩, ⟨_, rfl⟩⟩

/-- The timer table of a part with a session: an armed entry, a linked one, one that waits for the clock. -/
theorem test_meets_table :
    let x : Session := ⟨.active, .request, 0, 60, 0, none⟩
    let l : List Entry :=
      [⟨7, .after 60, .coolingOn, some 60⟩, ⟨242, .linked, .restEnd, some 3600⟩, ⟨9, .weekly 5 127, .coolingOff, none⟩]
    tableOk { withDuty { Duty.start with session := some x } with tmr := ⟨0, false, 0, 0, l, []⟩ } :=
  ⟨by decide, by decide, by simp [entryPrecedes], by simp [withDuty], ⟨by decide, by decide, by decide⟩,
    ⟨by decide, by decide, by decide⟩, fun w h => by cases h⟩

theorem test_meets_duty_ok : base.duty.ok := ⟨by decide, by decide, rfl, by decide, by simp [Duty.periods, base]; decide⟩

theorem test_meets_unit_invariants : base.out.ok ∧ coolingOk base ∧ heaterOk base ∧ base.lgt.ok :=
  ⟨⟨fun c => by cases c <;> exact ⟨by decide, by decide, by decide⟩, by decide⟩, ⟨by decide, by decide⟩,
    ⟨⟨by decide, by decide⟩, ⟨by decide, by decide⟩, ⟨by decide, by decide⟩⟩,
    fun l => by cases l <;> exact ⟨by decide, by decide, by decide, fun q h => by cases h⟩⟩

/-- A driving compressor record under the two invariants of the minimum-off. -/
theorem test_meets_compressor_driving :
    let s := { withCool { Cooling.start with state := .running, minOff := 0 } with out := base.out }
    let t := demand .compressor .duty (some 1000) s
    (t.chan .compressor).state = .driving ∧ coolingOk t := ⟨by decide, by decide, by decide⟩

theorem test_meets_resets : (run .pinReset base).sys.phase = .inReset ∧ base.sys.phase ≠ .inReset := by decide

theorem test_meets_block_load :
    let at' (n : Nat) : State := { State.reset with sys := { State.reset.sys with loads := n } }
    (at' 0).sys.phase = .settling ∧ allBlocks[(at' 0).sys.loads]? = some .chanMap ∧
      allBlocks[(at' 8).sys.loads]? = some .signals ∧ allBlocks[(at' 9).sys.loads]? = some .timers := by decide

theorem test_meets_settling_end :
    let s := { State.reset with sys := ⟨.settling, .pin, false, 10⟩, meas := { Meas.start with sets := 16 } }
    s.sys.phase = .settling ∧ s.sys.loads = 10 ∧ 16 ≤ s.meas.sets := by decide

theorem test_meets_sample_set :
    let s := { base with meas := { Meas.start with sets := 99 }, out := { base.out with thermalHold := true } }
    Awake s ∧ (s.meas.sets + 1) % 100 = 0 ∧ s.out.thermalHold = true ∧ Awake State.reset := by decide

/-- The fan reads 9 000 mA at set 100: a first trip, a third in a window, a fourth that latches; one below reads no trip. -/
theorem test_meets_trip :
    let f (s : State) (i : Nat) : RecState := ((run (.sampleSet (quiet 2400 i false)) s).chan .fan).state
    (fanDriven 0 none |>.chan .fan).state = .driving ∧ Awake (fanDriven 0 none) ∧ 9000 ≤ 5 * (1800#12).toNat ∧
      2 ∈ (fanDriven 0 none |>.chan .fan).chans ∧ f (fanDriven 0 none) 1799 = .driving ∧
      f (fanDriven 0 none) 1800 = .tripped ∧ f (fanDriven 2 (some 0)) 1800 = .tripped ∧
      f (fanDriven 3 (some 0)) 1800 = .latched := by decide +kernel

/-- A trip at the set at which the supply floor hold begins. -/
theorem test_meets_trip_held :
    let s := { fanDriven 0 none with meas := supplied 100 15999 }
    let t := run (.sampleSet (quiet 1599 1800 false)) s
    holding s = false ∧ holding t = true ∧ (t.chan .fan).state = .held ∧ (t.chan .fan).trips = 1 := by decide +kernel

/-- The slew of a driven fan, with no ladder step and no purge, under the invariant of the outputs. -/
theorem test_meets_slew :
    let s := fanDriven 0 none
    let t := run (.sampleSet (quiet 2400 0 false)) s
    s.out.ok ∧ (s.chan .fan).mode = .duty ∧ t.rsv.stack = s.rsv.stack ∧ s.htr.purge = none ∧
      (t.chan .fan).state = .driving ∧ (t.chan .fan).mode = .duty ∧
      (t.chan .fan).applied = movedToward (s.set.slewLimit .fan) 900 500 := by
  refine ⟨⟨fun c => by cases c <;> exact ⟨by decide, by decide, by decide⟩, by decide⟩, ?_⟩
  decide +kernel

/-- The floor at its two ends: a hold begins below 16 000 mV and is released at 17 000 mV. -/
theorem test_meets_floor :
    let s (v : Nat) (h : Bool) : State :=
      { base with meas := supplied 100 v, out := { base.out with floorHold := h } }
    let held (v : Nat) (h : Bool) : Bool := holding (run (.sampleSet (quiet (v / 10) 0 false)) (s v h))
    held 15990 false = true ∧ held 16000 false = false ∧ held 16990 true = true ∧ held 17000 true = false ∧
      (base.chan .fan).chans ≠ [] ∧ heaterFitted base = true ∧ coolingFitted base = true := by decide +kernel

/-- A reserve before set 100 with `k` steps applied, an amount drawn of 50 000 mAh and a constant mean current. -/
def beforeSecond (k drawn current : Nat) (b : Band) : State :=
  { base with
    meas := supplied 100 24000, tmr := { Timer.start with seconds := 200 }
    rsv := { Reserve.start with
      allowance := 50000, drawn := drawn, ring := List.replicate 60 current, external := current - 35, band := b
      stack := (List.range k).map fun i => ⟨i + 1, 0, 1000⟩, restoreHold := 7 } }

/-- The four ways of the ladder at an accounting second: reserve empty, projection, restore test passed and failed. -/
theorem test_meets_ladder :
    let f (s : State) : Nat × Nat := let t := run (.sampleSet (quiet 2400 0 false)) s; (t.rsv.stack.length, t.rsv.restoreHold)
    let l := base.rsv.ladder.length
    1 < l ∧ f (beforeSecond 1 50000 3600 .normal) = (l, 0) ∧ f (beforeSecond 1 40000 36000 .low) = (2, 0) ∧
      f (beforeSecond l 10000 100 .normal) = (l, 8) ∧ f (beforeSecond l 49999 36000 .normal) = (l, 0) ∧
      f (beforeSecond 0 10000 100 .normal) = (0, 0) ∧ f (beforeSecond 1 10000 100 .low) = (1, 0) := by decide +kernel

/-- A heater whose thermostat is evaluated at set 100, at 20.0 °C. -/
def evaluated (st : HState) (stage : Nat) (sets : Nat) (target : Int) : State :=
  let m := supplied 100 24000
  let h := { Heater.start with
    state := st, stage := stage, stageSets := sets, target := target, mode := .thermostat, runTimer := .left 2
    restartWait := 1 }
  { beforeSecond 0 0 100 .normal with
    meas := { m with tsc := { m.tsc with filter := List.replicate 8 200 }, secSum := 99 * 200 }, htr := h }

/-- RUN with a change due and 6 000 sets in the stage, and not; WAIT_DEMAND at an error of 1.0 K and just below. -/
theorem test_meets_thermostat :
    let f (s : State) : HState × Nat := let t := run (.sampleSet (quiet 2400 0 false)) s; (t.htr.state, t.htr.stage)
    f (evaluated .run 1 5999 230) = (.run, 4) ∧ f (evaluated .run 1 5998 230) = (.run, 1) ∧
      f (evaluated .run 4 5999 227) = (.run, 3) ∧ f (evaluated .run 4 5999 228) = (.run, 4) ∧
      f (evaluated .waitDemand 1 0 210) = (.check, 1) ∧ f (evaluated .waitDemand 1 0 209) = (.waitDemand, 1) := by
  decide +kernel

/-- Running parts for the signal lines: each class of Table 99 alone, and each function of Table 100. -/
theorem test_meets_signal_lines :
    let fan (r : RecState) (o : Bool) : State := base.setChan .fan { base.chan .fan with state := r, openLoad := o }
    base.sys.phase = .running ∧ base.sys.loads = 10 ∧ nflt base = false ∧ nflt (fan .latched false) = true ∧
      nflt (fan .off true) = true ∧ nflt { base with out := { base.out with thermalHold := true } } = true ∧
      nflt (withHtr { Heater.start with state := .lockout }) = true ∧
      nflt { base with meas := base.meas.setSensor .tsx (sensorIn .fault 3 0) } = true ∧
      nflt { base with ntq := { base.ntq with linkTimer := some 10 } } = true ∧
      nstaLow { base with ntq := { base.ntq with records := [⟨.key, .ntq, 0, 0, 1, 0⟩] } } ≠ nstaLow base := by
  decide +kernel

theorem test_meets_sensor_events :
    let f (x : Sensor) : State := { base with meas := base.meas.setSensor x (sensorIn .valid 3 0) }
    let g (x : Sensor) : State := { base with meas := base.meas.setSensor x (sensorIn .fault 0 10) }
    ((f .tsx).meas.sensor .tsx).validity = .valid ∧ 3 ≤ ((f .tsx).meas.sensor .tsx).outRun ∧
      ((f .tsc).meas.sensor .tsc).validity = .valid ∧ 3 ≤ ((f .tsf).meas.sensor .tsf).outRun ∧
      ((g .tsf).meas.sensor .tsf).validity = .fault ∧ 10 ≤ ((g .tsf).meas.sensor .tsf).inRun ∧ Awake (g .tsf) := by decide

theorem test_meets_debounce :
    let s := { base with meas := { Meas.start with ign := ⟨true, 50⟩, lid := ⟨false, 10⟩ } }
    let t := base.setKey .key3 ⟨⟨true, 3⟩, .held, 40, 800⟩
    Awake s ∧ s.meas.ign.count = 50 ∧ s.meas.ign.level = true ∧ s.meas.lid.count = 10 ∧ coolingFitted s = true ∧
      Awake t ∧ (t.key .key3).deb.count = 3 ∧ (t.key .key3).deb.level = true ∧ (t.key .key3).cls = .held ∧
      (t.key .key3).hold < 2000 := by decide

theorem test_meets_keys :
    let s := base.setKey .key4 ⟨⟨true, 0⟩, .held, 2000, 800⟩
    let t := base.setKey .key1 ⟨⟨true, 0⟩, .held, 800, 800⟩
    let u := base.setKey .key2 ⟨⟨true, 0⟩, .repeating, 900, 900⟩
    Awake s ∧ (s.key .key4).cls = .held ∧ 2000 ≤ (s.key .key4).hold ∧ 800 ≤ (t.key .key1).hold ∧
      (u.key .key2).cls = .repeating ∧ (u.key .key2).nextRepeat ≤ (u.key .key2).hold := by decide

theorem test_meets_fast_reading :
    let s := stroking pulse
    Awake s ∧ s.out.stroke.pulse = some pulse ∧ pulse.phase = .hit ∧ (s.chan .pump).state = .driving ∧
      pulse.readings < 2 * pulse.hitTime ∧ 5 * (1799#12).toNat < 9000 ∧ 9000 ≤ 5 * (1800#12).toNat ∧
      (s.chan .pump).windowStart = none := by decide

theorem test_meets_record_events :
    let s := base.setChan .fan { base.chan .fan with
      state := .tripped, retry := some 0, windowStart := some 0, lowRun := 50, highRun := 50 }
    let t := { s with tmr := { s.tmr with seconds := 60 } }
    Awake t ∧ (t.chan .fan).state = .tripped ∧ (t.chan .fan).retry = some 0 ∧ (t.chan .fan).windowStart = some 0 ∧
      0 + 60 ≤ t.tmr.seconds ∧ 50 ≤ (t.chan .fan).lowRun ∧ (t.chan .fan).openLoad = false ∧
      50 ≤ (t.chan .fan).highRun := by decide

theorem test_meets_stroke_phases :
    let s := stroking { pulse with start := 94 }
    let t := stroking { pulse with start := 74, phase := .hold }
    Awake s ∧ 94 + pulse.hitTime < 10 * s.meas.sets + 10 ∧ 74 + pulse.hitTime + pulse.holdTime < 10 * t.meas.sets + 10 := by
  decide

/-- The latched record of CLEAR CHANNEL FAULT, with the link free. -/
theorem test_meets_link_free :
    let s := base.setChan .glow { base.chan .glow with state := .latched, trips := 4, windowStart := some 0 }
    LinkFree s ∧ LinkFree base ∧ LinkFree State.reset ∧ (s.chan .glow).state = .latched ∧ fitted s .glow = true ∧
      base.tmr.ok := ⟨by decide, by decide, by decide, by decide, by decide, by decide, by decide, by decide, by decide⟩

theorem test_meets_check_end :
    let s := withHtr { Heater.start with state := .check, stateSets := 200 }
    Awake s ∧ s.htr.state = .check ∧ 200 ≤ s.htr.stateSets := by decide

theorem test_meets_start_phases :
    let g := { Heater.start with state := .glow, stateLen := 40, stateSets := 4000 }
    let p := { Heater.start with state := .prime, stateSets := 1500 }
    let i := { Heater.start with state := .ignition, stateLen := 90, stateSets := 9000 }
    Awake (withHtr g) ∧ 100 * g.stateLen ≤ g.stateSets ∧ 1500 ≤ p.stateSets ∧ 100 * i.stateLen ≤ i.stateSets := by decide

theorem test_meets_stroke_due :
    let s := withHtr { Heater.start with state := .run, peff := 1000, nextStroke := some 9 }
    Awake s ∧ s.htr.state.dosing = true ∧ s.htr.nextStroke = some 9 ∧ 9 < 10 * s.meas.sets + 10 := by decide

theorem test_meets_stabilise_and_run :
    let a := withHtr { Heater.start with state := .stabilise, stateSets := 6000, ramp := some ⟨500, 900, 20000⟩ }
    let b := withHtr { Heater.start with state := .run, runSets := 60000, idleOff := 300, lockout := ⟨false, none, 1, 0, 0⟩ }
    let c := withHtr { Heater.start with state := .waitDemand, mode := .fixed, runTimer := .unlimited }
    Awake a ∧ a.htr.ramp = some ⟨500, 900, 20000⟩ ∧ 6000 ≤ a.htr.stateSets ∧ a.htr.glowOff = false ∧
      60000 ≤ b.htr.runSets ∧ 0 < b.htr.lockout.count ∧ b.htr.mode = .thermostat ∧ 300 ≤ b.htr.idleOff ∧
      c.htr.mode = .fixed ∧ c.htr.restartWait = 0 ∧ c.htr.timeLeft = true := by decide

theorem test_meets_run_timer :
    let s := withHtr { Heater.start with state := .run, runTimer := .left 0 }
    Awake s ∧ s.htr.runTimer = .left 0 := by decide

theorem test_meets_purge_limits :
    let k : Purge := ⟨.retry, none, true, false, false, 100 * base.set.purgeMax⟩
    let s := withHtr { Heater.start with state := .purge, purgeMaxed := true, purge := some k }
    let t := withHtr { Heater.start with state := .purge, holdSets := 6000, purge := some { k with suspended := true } }
    Awake s ∧ s.htr.purge = some k ∧ k.burnOff = true ∧ 3000 ≤ k.sets ∧ s.htr.glowOff = false ∧ k.suspended = false ∧
      s.htr.purgeMaxed = true ∧ 6000 ≤ t.htr.holdSets := by decide

theorem test_meets_heater_set :
    (withHtr { Heater.start with state := .run }).htr.state = .run ∧
      LinkFree (withHtr { Heater.start with state := .waitDemand }) ∧
      heaterFitted base = true ∧ LinkFree (withHtr { Heater.start with state := .lockout }) := by decide

theorem test_meets_compressor_runs :
    let w := { withCool { Cooling.start with state := .waiting, minOff := 0, cutIn := true } with
      meas := { Meas.start with tsf := { sensorIn .valid 0 0 with reported := 50 } } }
    let r := withCool { Cooling.start with state := .running, minOff := 0, check := .pending, runSets := 6000 }
    let f := withCool { Cooling.start with
      state := .running, minOff := 0, fallback := true, runSets := 6000 * base.set.fallbackOn }
    (withCool { Cooling.start with state := .minOff }).cool.offLeft = 0 ∧ Awake w ∧ CutInAdmitted w ∧
      w.cool.cutIn = true ∧ 1000 ≤ r.cool.runSets ∧ r.cool.sixty = false ∧
      6000 * f.set.fallbackOn ≤ f.cool.runSets :=
  ⟨by decide, by decide,
    ⟨by decide, by decide, by decide, by decide, by decide, by decide, by decide, by decide, by decide, by decide⟩,
    by decide, by decide, by decide, by decide⟩

theorem test_meets_speed_and_lid :
    let s := withCool { Cooling.start with state := .running, minOff := 0, stepSets := 3000, lidSets := some 12000 }
    Awake s ∧ 3000 ≤ s.cool.stepSets ∧ coolingFitted s = true ∧ s.cool.lidSets = some 12000 ∧
      s.cool.lidReported = false := by decide

/-- A light with a ramp that has run its time, with a program in such a ramp, with a part in one, and with a held step. -/
theorem test_meets_light_ends :
    let m : Ramp := ⟨0, 50, 40, 4⟩
    let st : PStep := ⟨50, 0, 1000⟩
    let a : Active := ⟨⟨1, 1, [st]⟩, 1, 1, .hold 100, 1⟩
    m.time ≤ m.sets / 2 * 20 ∧ a.prog.steps[a.step - 1]? = some st ∧ st.hold ≤ 10 * 100 ∧ 1 ≤ a.age ∧
      (base.setLight .lower { LightRec.start 60 with ramp := some m } |>.light .lower).ramp = some m ∧
      (base.setLight .lower { LightRec.start 60 with active := some { a with phase := .ramp m } } |>.light .lower).playing =
        none ∧
      (base.setLight .lower { LightRec.start 60 with playing := some ⟨.wake, 4, some m⟩ } |>.light .lower).active = none := by
  decide

theorem test_meets_alert_ends :
    let k : Part := ⟨.driveLimit, partDuration .driveLimit .chime / 10, none⟩
    let s := base.setLight .chime { LightRec.start 100 with playing := some k }
    let w := { base with lgt := { base.lgt with wakeTimer := some 0, chimeDone := true, chimeFresh := false } }
    Awake s ∧ (s.light .chime).playing = some k ∧ partDuration k.pattern .chime ≤ 10 * k.sets ∧ w.lgt.wakeTimer = some 0 ∧
      w.lgt.chimeDone = true ∧ w.lgt.chimeFresh = false := by decide

theorem test_meets_timer_second :
    let s := withDuty { Duty.start with current := ⟨.drive, .open, 0, 0⟩, cdLimit := true, cdRepeat := some 5 }
    Awake s ∧ s.duty.current.kind = .drive ∧ base.duty.current.kind ≠ .drive ∧ base.tmr.minute < 10080 ∧
      base.tmr.second < 60 := by decide

/-- Two entries that are due: one of the heater, one of the cooling controller. -/
theorem test_meets_timer_fire :
    let e : Entry := ⟨7, .after 60, .coolingOn, some 60⟩
    let s := { base with tmr := ⟨60, false, 0, 0, [e], [7]⟩ }
    let h : Entry := ⟨8, .after 60, .heaterStop, some 60⟩
    let t := { withHtr { Heater.start with state := .glow } with tmr := ⟨60, false, 0, 0, [h], [8]⟩ }
    Awake s ∧ s.tmr.nextFiring = some e ∧ coolingFitted s = true ∧ t.tmr.nextFiring = some h ∧ heaterFitted t = true := by
  decide

/-- Every kind of action in an entry that is due, with and without a session. -/
theorem test_meets_timer_actions :
    let x : Session := ⟨.active, .request, 0, 60, 20, some ⟨30, 200⟩⟩
    let f (a : Action) (d : Option Session) : Bool :=
      let e : Entry := ⟨7, .weekly 5 127, a, some 60⟩
      let s := { withDuty { Duty.start with session := d } with tmr := ⟨60, true, 5, 0, [e], [7]⟩ }
      s.tmr.nextFiring == some e && s.sys.phase == .running
    [Action.heaterStart 200 0, .heaterStop, .coolingOn, .coolingOff, .lightLevel .chime 50 0, .alert .wake,
        .alert .cutoff, .wake, .restEnd, .prewarm].all (fun a => f a (some x) && f a none) = true := by decide +kernel

theorem test_meets_occurrence : (604799 < 604800 ∧ 10079 < 10080) ∧ secondsTo 604799 10079 = 604741 := by decide

theorem test_meets_vehicle :
    let s := { withDuty { Duty.start with reported := .moving, hold := some 10, stale := 30 } with
      meas := { Meas.start with ign := ⟨true, 0⟩ } }
    let t := withDuty { Duty.start with cdRepeat := some 0, ddRepeat := some 0 }
    Awake s ∧ s.duty.hold = some 10 ∧ s.meas.ign.level = true ∧ s.duty.stale = 30 ∧ s.duty.staleFlag = false ∧
      s.duty.current.kind ≠ .drive ∧ t.duty.cdRepeat = some 0 ∧ t.duty.ddRepeat = some 0 ∧
      t.set.warningEnabled = true ∧ fitted t .chime = true ∧ (t.light .chime).playing = none := by decide

theorem test_meets_rest :
    let s := run (.beginRest 1 [60, 0, 10, 0, 0, 0, 0]) base
    let u := { s with lnk := .start false }
    LinkFree u ∧ u.duty.session.isSome ∧ ¬(u.meas.ign.level = true ∧ u.duty.effective = .moving) ∧
      u.tmr.seconds < linkedDue ⟨.active, .request, 0, 15, 10, none⟩ 240 := by decide

theorem test_meets_charge_and_ladder :
    let a := withRsv { Reserve.start with charging := true, chargeRun := 3000, spell := 120000 }
    let b := withRsv { Reserve.start with stack := [⟨1, 0, 0⟩], restoreHold := 300 }
    let c := { withRsv { Reserve.start with band := .low, accounted := true } with tmr := { Timer.start with seconds := 30 } }
    Awake a ∧ 3000 ≤ a.rsv.chargeRun ∧ 120000 ≤ a.rsv.spell ∧ 300 ≤ b.rsv.restoreHold ∧ b.rsv.stackOk ∧
      (b.rsv.ladder[b.rsv.stack.length - 1]?).isSome ∧ c.rsv.accounted = true ∧ c.rsv.band = .low ∧
      (c.rsv.ladder[c.rsv.stack.length]?).isSome ∧ 30 ≤ c.tmr.seconds - c.rsv.lastChange :=
  ⟨by decide, by decide, by decide, by decide, ⟨by decide, by decide⟩, by decide, by decide, by decide, by decide,
    by decide⟩

theorem test_meets_bands :
    let r (c k l v : Nat) (b : Band) : Reserve :=
      { Reserve.start with cutoffRun := c, criticalRun := k, lowRun := l, leaveRun := v, band := b }
    (r 500 1000 3000 0 .normal).nextBand = some .cutoff ∧ (r 499 1000 3000 0 .normal).nextBand = some .critical ∧
      (r 0 999 3000 0 .normal).nextBand = some .low ∧ (r 0 0 0 6000 .cutoff).nextBand = some .critical ∧
      (r 0 0 0 5999 .low).nextBand = none := by decide

theorem test_meets_receiver :
    Awake (withLnk { Link.start false with rx := .length }) ∧
      (withLnk { Link.start false with rx := .body 48 (List.replicate 50 0) }).lnk.rx =
        .body 48 (List.replicate 50 0) ∧
      (48#8).toNat + 3 ≤ (List.replicate 50 (0 : Byte)).length + 1 ∧
      (withLnk { Link.start false with rx := .discard none }).lnk.rx = .discard none ∧ base.lnk.rx = .hunt := by decide

theorem test_meets_frames :
    let f : Frame := ⟨1, 0x01, []⟩
    let s := withLnk { Link.start true with work := some f, waiting := some f, tx := some (.reply [1]) }
    let u := withLnk { Link.start true with tx := some (.reject [1]), rx := .body 0 [1, 1] }
    Awake s ∧ s.lnk.work = some f ∧ s.lnk.waiting = some f ∧ s.lnk.tx = some (.reply [1]) ∧ Awake u ∧
      u.lnk.tx = some (.reject [1]) ∧ u.lnk.rx = .body (BitVec.ofNat 8 0) [1, kindOf .status] ∧
      requestOf (0x46#8).toNat = none := by decide

theorem test_meets_queue_timers :
    let s := { base with ntq := { Ntq.start with supplyTimer := some 0, thermalTimer := some 0, linkTimer := some 0 } }
    Awake s ∧ s.ntq.supplyTimer = some 0 ∧ s.ntq.thermalTimer = some 0 ∧ s.ntq.linkTimer = some 0 := by decide

theorem test_meets_post :
    let r : Record := ⟨.lost, .ntq, 0, 5, 1, 0⟩
    (∃ x ∈ [r], x.kind = .lost ∧ x.source = noticeSource .lost) ∧ ([] : List Record).length < 32 ∧
      (∀ x ∈ List.replicate 32 r, ¬(x.kind = .key ∧ x.source = noticeSource .key)) ∧
      32 ≤ (List.replicate 32 r).length := by decide

theorem test_meets_store :
    let w : Write := ⟨.heater, false, blockDefaults .heater, .reading, true, false⟩
    let s := { base with sto := { base.sto with activity := .write w } }
    let v := { base with sto := { base.sto with activity := .write { w with phase := .writing, second := false } } }
    let c := { base with sto := { base.sto with activity := .check true } }
    Awake s ∧ s.sto.activity = .write w ∧ w.second = true ∧
      v.sto.activity = .write { w with phase := .writing, second := false } ∧ c.sto.activity = .check true := by decide

/-- Both ends of a check: a block as written is good, and a marked block 0 is the lowest bad one. -/
theorem test_meets_check :
    (∀ b d, (Stored.written b d).good b = true) ∧
      (let bad := { base.sto.stored.chanMap with marked := true }
       firstBad { base.sto with stored := base.sto.stored.set .chanMap bad } true = some .chanMap) :=
  ⟨fun b d => by simp [Stored.written, Stored.good], by decide⟩

/-! ### What a sample set does to the heater, the runs and the lights -/

/-- A heater before set `n` that will read `tsx` (in 0.1 °C, from 0 on by steps of 2.5) on a VALID TSX. -/
def heated (n : Nat) (tsx : Int) (h : Heater) : State :=
  { base with
    meas := { supplied n 24000 with tsx := ⟨List.replicate 8 tsx, 0, 10, false, .valid, tsx⟩ }
    htr := h }

/-- The quiet set that reads `tsx`, with the order of an expiry against the flame test. -/
def heatSet (tsx : Nat) (expiryFirst : Bool) : RawSet :=
  { quiet 2400 0 false with tsx := BitVec.ofNat 12 (400 + tsx * 2 / 5), expiryFirst := expiryFirst }

/-- No record latches, no hold begins or ends, no ladder step is applied: `CalmSet` as a Bool. -/
def calm (s t : State) : Bool :=
  (allConsumers.all fun c => (t.chan c).state != .latched || (s.chan c).state == .latched) &&
    (!holding s && !holding t) && (t.rsv.stack == s.rsv.stack)

theorem calm_set {s t : State} (h : calm s t = true) : CalmSet s t := by
  simp only [calm, Bool.and_eq_true, List.all_eq_true, Bool.or_eq_true, bne_iff_ne, beq_iff_eq, Bool.not_eq_true'] at h
  refine ⟨fun c hc => ?_, Or.inl h.1.2, h.2⟩
  rcases h.1.1 c (by cases c <;> decide) with h' | h'
  · exact absurd hc h'
  · exact h'

/-- What a set leaves of a heater: its state, its purge as (next, cause, burn-off), and whether the set was calm. -/
structure HeaterSet where
  state : HState
  next : Option Next
  cause : Option Cause
  burnOff : Option Bool
  calm : Bool
  deriving DecidableEq

/-- That of one set read at `tsx`, before which the heater is `h`. -/
def heaterAfter (n : Nat) (tsx : Nat) (first : Bool) (h : Heater) : HeaterSet :=
  let s := heated n tsx h
  let t := run (.sampleSet (heatSet tsx first)) s
  ⟨t.htr.state, t.htr.purge.map (·.next), t.htr.purge.bind (·.cause), t.htr.purge.map (·.burnOff), calm s t⟩

/-- A heater at the end of its ignition window, and one in RUN after a peak of 70.0 °C. -/
def igniting : Heater := { Heater.start with state := .ignition, tRef := 120, stateLen := 90, stateSets := 8999, attempts := 2 }
def burning : Heater := { Heater.start with state := .run, peakRing := [700], restarts := 1 }

/-- R43, R55: flame at the rise and just below it, at the set at which the window expires in both orders, and overheat. -/
theorem test_meets_ignition_set :
    [heaterAfter 50 200 false igniting, heaterAfter 50 195 false igniting, heaterAfter 50 200 true igniting,
        heaterAfter 50 200 true { igniting with attempts := 1 }, heaterAfter 50 200 true { igniting with stateSets := 8998 },
        heaterAfter 50 2000 false igniting, heaterAfter 50 2000 true igniting] =
      [⟨.stabilise, none, none, none, true⟩, ⟨.ignition, none, none, none, true⟩, ⟨.purge, some .retry, none, some true, true⟩,
        ⟨.purge, some .lockout, some .noFlame, some true, true⟩, ⟨.stabilise, none, none, none, true⟩,
        ⟨.purge, some .lockout, some .overheat, some false, true⟩, ⟨.purge, some .lockout, some .overheat, some true, true⟩] := by decide +kernel

/-- R54, R55: a fall of 20.0 K in RUN with and without a restart left, a smaller one, one above 100.0 °C, and overheat. -/
theorem test_meets_flame_out :
    [heaterAfter 50 500 false burning, heaterAfter 50 500 false { burning with restarts := 0 }, heaterAfter 50 505 false burning,
        heaterAfter 50 1000 false { burning with peakRing := [1300] }, heaterAfter 50 2000 false burning,
        heaterAfter 50 2000 false { burning with state := .prime }] =
      [⟨.purge, some .retry, none, some true, true⟩, ⟨.purge, some .lockout, some .flameOut, some true, true⟩,
        ⟨.run, none, none, none, true⟩, ⟨.run, none, none, none, true⟩, ⟨.purge, some .lockout, some .overheat, some false, true⟩,
        ⟨.purge, some .lockout, some .overheat, some false, true⟩] := by
  decide +kernel

/-- R53, R55: the end test at the purge minimum and one set before it, at the cool temperature, to each next, and an overheat
in a purge. -/
theorem test_meets_purge_set :
    let k (n : Next) (sets : Nat) : Heater :=
      { Heater.start with state := .purge, purge := some ⟨n, some .pump, false, false, false, sets⟩ }
    let f (n : Next) (sets tsx : Nat) : HState := (heaterAfter 50 tsx false (k n sets)).state
    100 * base.set.purgeMin = 12000 ∧ f .off 11999 595 = .off ∧ f .off 11998 595 = .purge ∧ f .off 11999 600 = .purge ∧
      f .retry 11999 595 = .check ∧ f .waitDemand 11999 595 = .waitDemand ∧ f .lockout 11999 595 = .lockout ∧
      heaterAfter 50 2000 false (k .off 5) = ⟨.purge, some .lockout, some .overheat, some false, true⟩ ∧
      (heaterAfter 50 595 false (k .off 11999)).calm = true := by decide +kernel

/-- R71, R73: a run of 60 s at the cut-out temperature, just above it, one set earlier, and the mean that passes the check. -/
theorem test_meets_run_set :
    let c := { Cooling.start with
      state := .running, minOff := 0, check := .pending, runSets := 5999, setpoint := 60, failures := 1 }
    let s (n : Nat) (tsf : Int) (c : Cooling) (sum : Nat) : State :=
      let s := { base with
        cool := c, meas := { supplied n 24000 with tsf := ⟨List.replicate 8 tsf, 0, 10, false, .valid, tsf⟩ } }
      s.setChan .compressor { (demand .compressor .duty (some 1000) s).chan .compressor with slotSum := sum }
    let f (n : Nat) (tsf : Int) (c : Cooling) (sum : Nat) : CState × StartCheck × Nat × Bool :=
      let u := s n tsf c sum
      let t := run (.sampleSet { quiet 2400 0 false with tsf := BitVec.ofNat 12 (tsf + 500).toNat }) u
      (t.cool.state, t.cool.check, t.cool.failures, calm u t)
    f 50 50 c 0 = (.minOff, .none, 1, true) ∧ f 50 51 c 0 = (.running, .pending, 1, true) ∧
      f 50 50 { c with runSets := 5998 } 0 = (.running, .pending, 1, true) ∧
      f 100 51 c 30000 = (.running, .passed, 1, true) ∧ f 100 51 c 29999 = (.running, .pending, 1, true) ∧
      f 100 50 c 30000 = (.minOff, .none, 0, true) := by decide +kernel

/-- R84, R85: a steady ramp at the second set after its start moves the level, the applied level and the demand. -/
theorem test_meets_level_set :
    let s := { base with meas := supplied 50 24000 }.setLight .lower
      { LightRec.start 60 with steady := 60, present := 0, ramp := some ⟨0, 60, 500, 1⟩ }
    let t := run (.sampleSet (quiet 2400 0 false)) s
    let u := run (.sampleSet (quiet 2400 0 false)) (s.setLight .lower { s.light .lower with degraded := true, ramp := some ⟨0, 60, 500, 599⟩ })
    (t.light .lower).present = 2 ∧ (t.light .lower).applied = 2 ∧ (t.chan .bunkLower).demand = some 0 ∧
      (u.light .lower).present = 60 ∧ (u.light .lower).applied = 30 ∧ (u.chan .bunkLower).demand = some 90 ∧
      t.rsv.stack = s.rsv.stack ∧ t.htr.state ≠ .lockout ∧ (t.chan .bunkLower).state ≠ .latched := by decide +kernel

/-- R29: the clearing of an open load, and its runs at a set below and at the threshold, and below 200 ‰. -/
theorem test_meets_open_load :
    let c := { base with out := base.out }.setChan .fan { base.chan .fan with openLoad := true, highRun := 50 }
    let f (duty i : Nat) : Nat × Nat :=
      let s := fanDriven 0 none
      let t := run (.sampleSet (quiet 2400 i false))
        (s.setChan .fan { s.chan .fan with applied := duty, lowRun := 49, highRun := 3 })
      ((t.chan .fan).lowRun, (t.chan .fan).highRun)
    Awake c ∧ (c.chan .fan).openLoad = true ∧ 50 ≤ (c.chan .fan).highRun ∧
      ((run (.openLoadClear .fan) c).chan .fan).openLoad = false ∧ base.set.openThreshold .fan = 150 ∧
      f 200 29 = (50, 0) ∧ f 200 30 = (0, 4) ∧ f 199 29 = (0, 0) := by decide +kernel

/-- R24, R25, R20: the slot of a fan at 500 ‰ and 1 A, the one-second mean of the 100th set, and a compensated duty. -/
theorem test_meets_slots :
    let s := fanDriven 0 none
    let s := s.setChan .fan { s.chan .fan with slotSum := 49500 }
    let t := run (.sampleSet (quiet 2400 200 false)) s
    let u := run (.sampleSet (quiet 2400 200 false)) { s with meas := supplied 50 24000 }
    let g := run (.sampleSet (quiet 2400 0 false)) (base.setChan .glow { base.chan .glow with
      mode := .compensated, state := .driving, demand := some 12000 })
    ((t.chan .fan).slotSum, (t.chan .fan).secMean, (t.chan .fan).ring60) = (0, 500, [500]) ∧
      (u.chan .fan).slotSum = 50000 ∧ (u.chan .fan).ring60 = [] ∧ (g.chan .glow).computed = 250 ∧
      (g.chan .glow).saturated = false ∧ (g.chan .glow).mode = .compensated := by decide +kernel

/-- R137, R149: the charge run at 26 400 mV and below, and the LOW run and the leave run at their thresholds. -/
theorem test_meets_supply_runs :
    let f (v : Nat) (r : Reserve) : Reserve :=
      (run (.sampleSet (quiet (v / 10) 0 false)) { withRsv r with meas := supplied 50 v }).rsv
    let r := Reserve.start
    (f 26400 { r with chargeRun := 7 }).chargeRun = 8 ∧ (f 26390 { r with chargeRun := 7 }).chargeRun = 0 ∧
      (f 25590 { r with charging := true, spell := 4 }).chargeRun = 1 ∧
      (f 25600 { r with charging := true, spell := 4 }).spell = 5 ∧ (f 22990 r).lowRun = 1 ∧ (f 23000 r).lowRun = 0 ∧
      (f 24000 { r with band := .low }).leaveRun = 1 ∧ (f 23990 { r with band := .low }).leaveRun = 0 := by
  decide +kernel

/-! ### What an overcurrent does to the owner -/

/-- The set at which the one channel `i` reads 9 000 mA. -/
def overAt (i : Nat) : RawSet :=
  let z (k : Nat) : Raw := if k = i then 1800 else 0
  { quiet 2400 0 false with current := ⟨z 0, z 1, z 2, z 3, z 4, z 5, z 6, z 7⟩ }

/-- A record driven at 500 ‰ with three trips in its window. -/
def lastTrip (c : Consumer) (s : State) : State :=
  { s with meas := supplied 50 24000 }.setChan c { s.chan c with
    mode := .duty, state := .driving, demand := some 900, computed := 900, applied := 500, trips := 3, windowStart := some 0 }

/-- The heater state and the notices after a latch of the record of `c`, on channel `i`. -/
def latchedAt (c : Consumer) (i : Nat) (st : HState) : HState × List (Notice × Nat × Int) :=
  let t := run (.sampleSet (overAt i)) (lastTrip c (withHtr { Heater.start with state := st }))
  (t.htr.state, t.ntq.records.map fun r => (r.kind, r.detail, r.value))

/-- R57: a latched FAN locks out a running heater and declines a start. -/
theorem test_meets_latched_fan :
    (latchedAt .fan 2 .run).1 = .lockout ∧ (latchedAt .fan 2 .purge).1 = .lockout ∧
      latchedAt .fan 2 .glow = (.off, [(.channelFault, 1, 0), (.heaterState, 0, 0), (.heaterDeclined, 5, 0)]) := by
  decide +kernel

/-- R57: a latched GLOW declines a start, ends IGNITION in a purge, and leaves STABILISE. -/
theorem test_meets_latched_glow :
    latchedAt .glow 0 .check = (.off, [(.channelFault, 1, 1), (.heaterState, 0, 0), (.heaterDeclined, 8, 0)]) ∧
      latchedAt .glow 0 .ignition = (.purge, [(.channelFault, 1, 1), (.heaterState, 7, 0), (.heaterDeclined, 8, 0)]) ∧
      latchedAt .glow 0 .stabilise = (.stabilise, [(.channelFault, 1, 1)]) ∧ 0 < base.set.purgeMin := by decide +kernel

/-- R56, R57: a PUMP latched by a fast reading is a pump fault in RUN, declines a start in GLOW, and leaves OFF. -/
theorem test_meets_latched_pump :
    let p (st : HState) : HState :=
      let s := stroking pulse
      let s := s.setChan .pump { s.chan .pump with trips := 3, windowStart := some 0 }
      (run (.pumpFastReading 1800) { s with htr := { Heater.start with state := st } }).htr.state
    p .run = .purge ∧ p .glow = .off ∧ p .off = .off := by decide +kernel

/-- R74: a COMPRESSOR trip is a failed run, the third one a fault; its latch is a fault, but not in OFF. -/
theorem test_meets_compressor_fault :
    let f (trips failures : Nat) (st : CState) : CState × CoolFault × Nat :=
      let c := { Cooling.start with state := st, minOff := 0, runSets := 500, failures := failures }
      let s := lastTrip .compressor (withCool c)
      let t := run (.sampleSet (overAt 4)) (s.setChan .compressor { s.chan .compressor with trips := trips })
      (t.cool.state, t.cool.fault, t.cool.failures)
    f 0 1 .running = (.minOff, .none, 2) ∧ f 0 2 .running = (.fault, .noStart, 3) ∧ f 3 1 .running = (.fault, .latched, 1) ∧
      f 3 1 .off = (.off, .none, 1) := by decide +kernel

/-- R100: a latch of BUNK_LOWER ends its programs with reason FAULT and shows the steady level. -/
theorem test_meets_latched_light :
    let a : Active := ⟨⟨1, 1, [⟨50, 0, 1000⟩]⟩, 1, 1, .hold 1, 1⟩
    let s := (lastTrip .bunkLower base).setLight .lower
      { LightRec.start 60 with steady := 80, present := 50, active := some a, waiting := [⟨2, 1, [⟨9, 0, 250⟩]⟩] }
    let t := run (.sampleSet (overAt 5)) s
    (t.light .lower).active = none ∧ (t.light .lower).waiting = [] ∧ (t.light .lower).present = 80 ∧
      (t.light .lower).playing = none ∧
      t.ntq.records.map (fun r => (r.kind, r.detail, r.value, r.count)) =
        [(.channelFault, 1, 4, 1), (.programEnd, 5, 1026, 2)] := by decide +kernel

/-! ### Requests answered OK or OK_CLAMPED, the wake chime, the duty second and the interruption -/

/-- R88, R114: the result of a LOAD PROGRAM at and above the ranges, and of a BEGIN REST. -/
theorem test_meets_clamped :
    let p (s : State) (l : List Byte) : Nat := resultCode (reqLoadProgram l s).result
    let d := base.setLight .lower { LightRec.start 60 with degraded := true }
    let b (l : List Byte) : Nat := resultCode (reqBeginRest l base).result
    p base [4, 0, 7, 15, 100, 200, 240] = 0 ∧ p base [4, 0, 7, 16, 100, 200, 240] = 1 ∧
      p base [4, 0, 7, 15, 101, 200, 240] = 1 ∧ p base [4, 0, 7, 15, 100, 201, 240] = 1 ∧
      p base [4, 0, 7, 15, 100, 200, 241] = 1 ∧ p d [4, 0, 7, 1, 30, 0, 1] = 0 ∧ p d [4, 0, 7, 1, 31, 0, 1] = 1 ∧
      p base [6, 0, 7, 1, 99, 0, 1] = 1 ∧ p base [6, 0, 7, 1, 100, 1, 1] = 1 ∧ p base [6, 0, 7, 1, 100, 0, 1] = 0 ∧
      b [15, 0, 60, 1, 90, 44, 1] = 0 ∧ b [14, 0, 60, 1, 90, 44, 1] = 1 ∧ b [15, 0, 61, 1, 90, 44, 1] = 1 ∧
      b [15, 0, 60, 1, 91, 44, 1] = 1 ∧ b [15, 0, 60, 1, 90, 45, 1] = 1 ∧ b [15, 0, 60, 0, 91, 45, 1] = 0 := by
  decide +kernel

/-- R94, R96: the chime of WAKE under a playing part, by what is pending there: checks 6, 7 and 8. -/
theorem test_meets_wake_checks :
    let f (q : Option Pattern) : Option Pattern × Bool × List (Nat × Int) :=
      let s := base.setLight .chime { LightRec.start 100 with playing := some ⟨.cutoff, 3, none⟩, queued := q }
      let t := run .wakeChimeTimerExpiry { s with lgt := { s.lgt with wakeTimer := some 0, chimeDone := false } }
      ((t.light .chime).queued, t.lgt.chimeDone, t.ntq.records.map fun r => (r.detail, r.value))
    f none = (some .wake, false, []) ∧ f (some .reserveStep) = (some .wake, false, [(2, 118)]) ∧
      f (some .wake) = (some .wake, true, [(2, 22)]) ∧ f (some .driveLimit) = (some .driveLimit, true, [(2, 22)]) := by
  decide +kernel

/-- R110, R112: the notices of a break, a second part, a daily rest and the four warnings, each at its second. -/
theorem test_meets_duty_notices :
    let f (d : Duty) : List (Notice × Nat × Int) :=
      (run .timerSecond (withDuty d)).ntq.records.map fun r => (r.kind, r.detail, r.value)
    let w := base.set
    let m : Marks := ⟨true, true, true, false⟩
    let drive := { Duty.start with current := ⟨.drive, .open, 0, 0⟩ }
    f { Duty.start with ns := 60 * w.breakFull - 1, marks := ⟨true, true, false, false⟩ } = [(.breakTaken, 0, 45)] ∧
      f { Duty.start with ns := 60 * w.breakFull - 2, marks := ⟨true, true, false, false⟩ } = [] ∧
      f { Duty.start with ns := 60 * w.breakSecond - 1, marks := ⟨true, false, false, false⟩, sp := true } =
        [(.breakTaken, 1, 30)] ∧
      f { Duty.start with ns := 60 * w.dailyRest - 1, marks := m } = [(.dailyRestDone, 0, 660)] ∧
      f { drive with cd := 60 * (w.limitCd - w.warnCd) - 1, dd := 20000 } =
        [(.drivePrewarn, 0, 255)] ∧
      f { drive with cd := 60 * w.limitCd - 1, dd := 20000, cdPre := true } = [(.driveLimit, 0, 270)] ∧
      f { drive with dd := 60 * (w.limitDd - w.warnDd) - 1 } = [(Notice.dailyPrewarn, 0, ((w.limitDd - w.warnDd : Nat) : Int))] ∧
      f { drive with dd := 60 * w.limitDd - 1, ddPre := true } = [(Notice.dailyLimit, 0, (w.limitDd : Int))] := by decide +kernel

/-- R111, R119: driving off interrupts a short session with its alert and notices, and ends the span. -/
theorem test_meets_interruption :
    let x : Session := ⟨.active, .request, 0, 60, 10, none⟩
    let d := { Duty.start with
      session := some x, reported := .moving, hold := some 10, current := ⟨.rest, .open, 0, 0⟩, pf := true, ns := 900
      marks := ⟨true, false, false, false⟩, breakGiven := true }
    let s := { withDuty d with
      meas := { Meas.start with ign := ⟨true, 0⟩ }
      tmr := ⟨1200, false, 0, 0, [⟨242, .linked, .restEnd, some 3600⟩], []⟩ }
    let t := run .vehicleHoldExpiry s
    t.ntq.records.map (fun r => (r.kind, r.detail, r.value)) = [(.restShort, 2, 20), (.restEnd, 2, 20)] ∧
      (t.light .chime).playing = some ⟨.restShort, 0, none⟩ ∧ t.tmr.table = [] ∧ t.duty.session = none ∧
      t.duty.current.kind = .drive ∧ t.duty.closed.map (·.cause) = [.interrupted] ∧ t.duty.sp = true ∧
      t.duty.pf = false ∧ t.duty.ns = 0 ∧ t.duty.breakGiven = false := by decide +kernel

/-! ### What a ladder step, a hold, a sensor fault and the alerts do to the owners -/

/-- The notices in the queue of a state, as (kind, detail, value). -/
def notices (s : State) : List (Notice × Nat × Int) := s.ntq.records.map fun r => (r.kind, r.detail, r.value)

/-- R145, R147: each cause of an applied step at an accounting second, with its notice and its one alert. -/
theorem test_meets_step_alert :
    let f (s : State) : List (Notice × Nat × Int) × Option Pattern :=
      let t := run (.sampleSet (quiet 2400 0 false)) s
      (notices t, (t.light .chime).playing.map (·.pattern))
    f (beforeSecond 1 40000 36000 .low) = ([(.shedStep, 0, 2)], some .reserveStep) ∧
      f (beforeSecond 1 50000 3600 .normal) = ([(.shedStep, 1, 7)], some .reserveStep) ∧
      f (beforeSecond 1 10000 100 .normal) = ([], none) ∧ Untested (beforeSecond 1 50000 3600 .normal) ∧
      ((beforeSecond 1 50000 3600 .normal).rsv.ladder.drop 1).Nodup :=
  ⟨by decide +kernel, by decide +kernel, by decide +kernel, .inl rfl, by decide +kernel⟩

/-- R59, R60, R76, R77, R97, R98: each step at its owner, on both sides of the 60 s of a run and of the first attempt. -/
theorem test_meets_steps :
    let h (st : HState) (a n : Nat) (x : LadderAction) : HState × Option Bool × Nat :=
      let t := handStep ⟨.heater, x⟩ (withHtr { Heater.start with state := st, attempts := a, stage := n })
      (t.htr.state, t.htr.purge.map (·.burnOff), t.htr.stage)
    let c (n : Nat) (x : LadderAction) : CState × Bool × Speed × Nat :=
      let t := handStep ⟨.compressor, x⟩
        (withCool { Cooling.start with state := .running, minOff := 0, runSets := n, step := .high, lidSets := some 0 })
      (t.cool.state, t.cool.stopPending, t.cool.step, t.cool.minOff)
    let l (x : LadderAction) : Nat × Nat × Option Nat :=
      let s := (demand .bunkUpper .duty (some 500) base).setLight .upper
        { LightRec.start 60 with
          steady := 80, present := 70, applied := 70, active := some ⟨⟨1, 1, []⟩, 1, 1, .hold 1, 1⟩ }
      let t := handStep ⟨.bunkUpper, x⟩ s
      ((t.light .upper).present, (t.light .upper).applied, (t.chan .bunkUpper).demand)
    [h .prime 1 1 .shed, h .prime 2 1 .shed, h .glow 2 1 .shed, h .run 2 3 .shed, h .run 2 3 .degrade,
          h .stabilise 2 3 .degrade] =
        [(.purge, some true, 1), (.purge, some false, 1), (.off, none, 1), (.purge, some false, 3),
          (.run, none, 1), (.stabilise, none, 3)] ∧
      [c 6000 .shed, c 5999 .shed, c 100 .degrade] =
        [(.minOff, false, .none, 0), (.running, true, .high, 0), (.running, false, .mid, 0)] ∧
      l .shed = (80, 0, none) ∧ l .degrade = (70, 30, some 90) := by decide +kernel

/-- R58: a floor hold that begins in GLOW of either origin, in RUN and in a purge, with the notices. -/
theorem test_meets_hold_begun :
    let f (h : Heater) (c : Cooling) : HState × Option Purge × List (Notice × Nat × Int) :=
      let t := run (.sampleSet (quiet 1599 0 false))
        { withHtr h with cool := c, meas := supplied 50 15990 }
      (t.htr.state, t.htr.purge, notices t)
    let p : Purge := ⟨.off, none, false, false, false, 7⟩
    [f { Heater.start with state := .glow } Cooling.start,
        f { Heater.start with state := .check, origin := .waitDemand } Cooling.start,
        f { Heater.start with state := .run } { Cooling.start with state := .running, minOff := 0 },
        f { Heater.start with state := .purge, purge := some p } Cooling.start] =
      [(.off, none, [(.heaterState, 0, 0), (.heaterDeclined, 9, 0)]),
        (.waitDemand, none, [(.heaterState, 8, 0), (.heaterDeclined, 9, 0)]),
        (.purge, some ⟨.lockout, some .supplyLost, false, true, false, 0⟩, [(.heaterState, 7, 3), (.coolingState, 1, 7)]),
        (.purge, some { p with sets := 8, suspended := true }, [])] := by decide +kernel

/-- R41, R55: a TSX fault in RUN, in GLOW and in a purge. -/
theorem test_meets_exchanger_fault :
    let f (h : Heater) : HState × Option Purge × List (Notice × Nat × Int) :=
      let t := run (.sensorFault .tsx) { withHtr h with meas := Meas.start.setSensor .tsx (sensorIn .valid 3 0) }
      (t.htr.state, t.htr.purge, notices t)
    let p : Purge := ⟨.retry, none, true, false, false, 7⟩
    [f { Heater.start with state := .run }, f { Heater.start with state := .glow },
        f { Heater.start with state := .purge, purge := some p }] =
      [(.purge, some ⟨.lockout, some .sensor, false, false, true, 0⟩, [(.sensorFault, 0, 1), (.heaterState, 7, 3)]),
        (.off, none, [(.sensorFault, 0, 1), (.heaterState, 0, 0), (.heaterDeclined, 2, 200)]),
        (.purge, some { p with fullLength := true, next := .lockout, cause := some .sensor },
          [(.sensorFault, 0, 1), (.heaterState, 7, 3)])] := by decide +kernel

/-- R72, R79: a TSF fault in RUNNING with the lid closed, open, and open in eco. -/
theorem test_meets_evaporator_fault :
    let g (lid : Option Nat) (eco : Bool) : Speed × Nat :=
      let c := { Cooling.start with state := .running, minOff := 0, lidSets := lid, degraded := eco, step := .low }
      let t := run (.sensorFault .tsf) { withCool c with meas := Meas.start.setSensor .tsf (sensorIn .valid 3 0) }
      (t.cool.step, t.cool.cspd)
    [g none false, g (some 5) false, g (some 5) true] =
      [(.mid, base.set.speedMid), (.high, base.set.speedHigh), (.mid, base.set.speedMid)] := by decide +kernel

/-- R72, R107, R111: ignition off closes a DRIVE record, a lid opening in RUNNING gives HIGH, in eco MID, and a cut-in at the
cut-in temperature LOW. -/
theorem test_meets_turned_levels :
    let d := run (.debounceChange .ign)
      { withDuty { Duty.start with current := ⟨.drive, .open, 0, 0⟩, effective := .moving } with
        meas := { Meas.start with ign := ⟨true, 50⟩ } }
    let l (eco : Bool) : Speed :=
      (run (.debounceChange .lid)
        { withCool { Cooling.start with state := .running, minOff := 0, step := .low, degraded := eco } with
          meas := { Meas.start with lid := ⟨false, 10⟩ } }).cool.step
    let w := run .cutIn { withCool { Cooling.start with state := .waiting, minOff := 0, cutIn := true, setpoint := 40 } with
      meas := { Meas.start with tsf := { sensorIn .valid 0 0 with reported := 50 } } }
    d.duty.closed.map (·.cause) = [.ignition] ∧ d.duty.current.kind = .stop ∧ l false = .high ∧ l true = .mid ∧
      (w.cool.state, w.cool.step, w.cool.cspd) = (.running, .low, base.set.speedLow) := by decide +kernel

/-- R23, R24: a third miss in PRIME with the open-load flag set, and a stroke without current with it clear. -/
theorem test_meets_open_stroke :
    let f (st : HState) (open' : Bool) (p : Pulse) : Bool × List (Notice × Nat × Int) :=
      let s := stroking { p with start := 94 }
      let s := { s.setStroke { s.out.stroke with miss := 2 } with htr := { Heater.start with state := st } }
      let t := run .hitPhaseEnd (s.setChan .pump { s.chan .pump with openLoad := open' })
      ((t.chan .pump).openLoad, notices t)
    f .prime true { pulse with exceeded := true } = (false, [(.openLoad, 0, 2), (.heaterState, 7, 3)]) ∧
      f .prime false pulse = (true, [(.openLoad, 1, 2)]) ∧
      f .prime true pulse = (true, []) ∧ f .run false pulse = (true, [(.openLoad, 1, 2), (.heaterState, 7, 3)]) := by
  decide +kernel

/-- R94: the eight checks, in their order, on the CHIME part of an alert: what plays, what is pending, what is reported. -/
theorem test_meets_alert_checks :
    let f (pat : Pattern) (s : State) : Option Pattern × Option Pattern × List (Notice × Nat × Int) :=
      let t := requestAlert pat s
      ((t.light .chime).playing.map (·.pattern), (t.light .chime).queued, notices t)
    let on (p : Option Pattern) (q : Option Pattern) : State :=
      base.setLight .chime { LightRec.start 100 with playing := p.map (⟨·, 9, none⟩), queued := q }
    let w := base.set.get .lights
    let quietW : State :=
      { base with sto := { base.sto with working := base.set.set .lights { w with nums := w.nums.set 1 0 } } }
    let cut : State := { base with lgt := { base.lgt with cutoffHold := true } }
    [f .driveLimit quietW, f .cutoff quietW, f .cutoff (base.setChan .chime { base.chan .chime with chans := [] }),
        f .driveLimit cut, f .cutoff cut, f .cutoff (on (some .driveLimit) none),
        f .driveLimit (on (some .cutoff) none), f .driveLimit (on (some .cutoff) (some .wake)),
        f .wake (on (some .cutoff) (some .driveLimit))] =
      [(none, none, [(.alertPlayed, 4, 70)]), (some .cutoff, none, []), (none, none, [(.alertPlayed, 5, 150)]),
        (none, none, [(.alertPlayed, 5, 70)]), (some .cutoff, none, []), (some .cutoff, none, [(.alertPlayed, 1, 70)]),
        (some .cutoff, some .driveLimit, []),
        (some .cutoff, some .driveLimit, [(.alertPlayed, 2, 22)]),
        (some .cutoff, some .driveLimit, [(.alertPlayed, 2, 22)])] ∧
      (requestAlert .heaterLockout base |>.light .lower).playing.map (·.pattern) = some .heaterLockout := by decide +kernel

/-- R96: a WAKE request withdraws the one that plays, and goes on with what is pending behind it. -/
theorem test_meets_wake_request :
    let s := base.setLight .lower { LightRec.start 60 with playing := some ⟨.wake, 9, none⟩ }
    let s := s.setLight .chime { LightRec.start 100 with playing := some ⟨.wake, 9, none⟩, queued := some .reserveStep }
    let t := requestWake 120000 s
    (t.light .lower).playing = some ⟨.wake, 0, some ⟨0, 60, 120000, 0⟩⟩ ∧ t.lgt.wakeTimer = some 120000 ∧
      (t.light .chime).playing.map (·.pattern) = some .reserveStep ∧ (t.light .chime).queued = none ∧
      t.lgt.chimeDone = false ∧ notices t = [(.alertPlayed, 3, 22)] := by decide +kernel

/-- R96: the light part of WAKE with its ramp complete. An alert of a timer entry that takes the chime's place between two sets
ends it at the next set only; the end of the chime part ends it at the set of that end (Table 60). -/
theorem test_meets_wake_light_end :
    let e : Entry := ⟨7, .after 60, .alert .cutoff, some 60⟩
    let s := base.setLight .lower { LightRec.start 60 with playing := some ⟨.wake, 9, none⟩ }
    let s := { s.setLight .chime { LightRec.start 100 with playing := some ⟨.wake, 90, none⟩ } with
      meas := supplied 50 24000, tmr := ⟨60, false, 0, 0, [e], [7]⟩ }
    let plays (t : State) : Bool := (t.light .lower).playing.isSome
    let fired := run .timerEntryFire s
    let found := run (.sampleSet (quiet 2400 0 false)) fired
    let ended := run (.alertPartEnd .chime) s
    (fired.lgt.chimeDone, fired.lgt.chimeFresh) = (true, true) ∧ plays (run (.alertPartEnd .lower) fired) = true ∧
      found.lgt.chimeFresh = false ∧ plays (run (.alertPartEnd .lower) found) = false ∧
      (ended.lgt.chimeDone, ended.lgt.chimeFresh) = (true, false) ∧ plays (run (.alertPartEnd .lower) ended) = false ∧
      plays (run (.alertPartEnd .lower) s) = true ∧ (run (.alertPartEnd .lower) found |>.light .lower).steady = 60 := by
  decide +kernel

/-- R56, R59: the entry of RUN under DEGRADE with and without the open-load flag of PUMP, from stage 3 and stage 1. -/
theorem test_meets_run_entry :
    let f (open' : Bool) (n : Nat) : HState × Nat × List (Notice × Nat × Int) :=
      let s := { withHtr { Heater.start with state := .stabilise, stateSets := 6000, stage := n } with
        rsv := { Reserve.start with ladder := [⟨.heater, .degrade⟩], stack := [⟨1, 0, 0⟩] } }
      let t := run .stabiliseEnd (s.setChan .pump { s.chan .pump with openLoad := open' })
      (t.htr.state, t.htr.stage, notices t)
    [f true 3, f true 1, f false 3] =
      [(.purge, 1, [(.heaterState, 7, 3)]), (.purge, 1, [(.heaterState, 7, 3)]), (.run, 1, [(.heaterState, 6, 0)])] := by decide +kernel

/-- R78, R94, R99: the entry of CUTOFF stops heater and compressor and ends programs and parts, but for an URGENT one. -/
theorem test_meets_cutoff :
    let f (p : Option Pattern) : State :=
      let s := { withHtr { Heater.start with state := .stabilise } with
        cool := { Cooling.start with state := .running, minOff := 0, runSets := 9 }
        rsv := { Reserve.start with cutoffRun := 500 } }
      let s := s.setLight .chime { LightRec.start 100 with playing := p.map (⟨·, 9, none⟩) }
      run (.bandChange true true) (s.setLight .lower
        { LightRec.start 60 with steady := 40, present := 70, active := some ⟨⟨1, 1, []⟩, 1, 1, .hold 1, 1⟩ })
    let playing (t : State) : Option Pattern × Option Pattern :=
      ((t.light .chime).playing.map (·.pattern), (t.light .chime).queued)
    playing (f none) = (some .cutoff, none) ∧ playing (f (some .wake)) = (some .cutoff, none) ∧
      playing (f (some .heaterLockout)) = (some .heaterLockout, some .cutoff) ∧
      (f none).htr.purge = some ⟨.off, none, false, false, false, 0⟩ ∧ (f none).cool.state = .minOff ∧
      ((f none).light .lower).active = none ∧ ((f none).light .lower).present = 40 ∧ ((f none).light .lower).applied = 0 := by
  decide +kernel

/-- R116, R117, R133, R135: a rest of 540 min, 60 min old, is shortened: the entries that have passed fire at once in ascending id,
with their notices (R166 combines TIMER_FIRED), and the others move. -/
theorem test_meets_shortened_rest :
    let x : Session := ⟨.active, .request, 0, 540, 20, some ⟨30, 210⟩⟩
    let e (id : Nat) (a : Action) : Entry := ⟨id, .linked, a, some (linkedDue x id)⟩
    let s := { withDuty { Duty.start with session := some x, current := ⟨.rest, .open, 0, 0⟩ } with
      tmr := ⟨3600, false, 0, 0, [e 241 .prewarm, e 240 .wake, e 242 .restEnd], []⟩ }
    let f (len : Byte) : List (Notice × Nat × Int) × List (Nat × Option Nat) × HState :=
      let t := run (.extendRest 1 [len, 0]) s
      (notices t, t.tmr.table.map (fun e => (e.id, e.due)), t.htr.state)
    [f 60, f 61, f 85, f 91] =
        [([(.timerFired, 0, 242), (.heaterState, 1, 0), (.restDue, 0, 60)], [], .check),
          ([(.timerFired, 0, 241), (.heaterState, 1, 0)], [(242, some 3660)], .check),
          ([(.heaterState, 1, 0), (.timerFired, 0, 241)], [(240, some 3900), (242, some 5100)], .check),
          ([], [(241, some 3660), (240, some 4260), (242, some 5460)], .off)] ∧
      ([60, 61].map fun len => (run (.extendRest 1 [len, 0]) s).duty.session.map (·.state)) =
        [some .due, some .active] := by decide +kernel

/-- R51, R52, R63: a stop in PURGE turns a next of RETRY or WAIT_DEMAND to OFF, with its notice; OFF and LOCKOUT stay without one. -/
theorem test_meets_stop_in_purge :
    let f (n : Next) : Option Next × List (Notice × Nat × Int) :=
      let t := run (.heaterStop 1 [])
        (withHtr { Heater.start with state := .purge, purge := some ⟨n, some .pump, false, false, false, 9⟩ })
      (t.htr.purge.map (·.next), notices t)
    [f .retry, f .waitDemand, f .off, f .lockout] =
      [(some .off, [(.heaterState, 7, 0)]), (some .off, [(.heaterState, 7, 0)]), (some .off, []), (some .lockout, [])] := by
  decide +kernel

/-- R50, R59: HEATER SET with mode FIXED in RUN at stage 3 takes stage 2, stage 3 (nothing changes), and under DEGRADE stage 1. -/
theorem test_meets_fixed_stage :
    let f (n : Byte) (d : Bool) : List Nat × Option PeffRamp × Option Nat :=
      let s := withHtr { Heater.start with state := .run, stage := 3, stageSets := 700, peff := 1500 }
      let t := run (.heaterSet 1 [200, 0, 1, n])
        { s with rsv := { Reserve.start with ladder := [⟨.heater, .degrade⟩], stack := if d then [⟨1, 0, 0⟩] else [] } }
      ([t.htr.stage, t.htr.stageSets], t.htr.ramp, (t.chan .fan).demand)
    [f 2 false, f 3 false, f 4 true] =
      [([2, 0], some ⟨1500, 1250, 0⟩, some 600), ([3, 700], none, none), ([1, 0], some ⟨1500, 850, 0⟩, some 450)] := by
  decide +kernel

/-- R67 to R70, R79: COOLING SET on from OFF with no minimum-off left, from OFF and FAULT with 9 s of it, the last in fallback, off
in a run, on in MIN_OFF and off in OFF: the minimum-off left, the off time left, the CSPD duty, the RUNNING time and the failures. -/
theorem test_meets_cooling_turned :
    let f (on : Byte) (st : CState) (left : Nat) (fb : Bool) : CState × List Nat × List (Notice × Nat × Int) :=
      let s := withCool { Cooling.start with
        state := st, on := true, minOff := left, fallback := fb, step := .mid, cspd := 700, runSets := 60, failures := 2
        offLeft := 5 }
      let s := if st = .running then s.setChan .compressor { s.chan .compressor with mode := .duty, state := .driving } else s
      let t := run (.coolingSet 1 [on, 40, 0]) s
      (t.cool.state, [t.cool.minOff, t.cool.offLeft, t.cool.cspd, t.cool.runSets, t.cool.failures], notices t)
    [f 1 .off 0 true, f 1 .off 9000 false, f 1 .fault 9000 true, f 0 .running 0 true, f 1 .minOff 7 true, f 0 .off 7 true] =
      [(.waiting, [0, 0, 0, 0, 2], [(.coolingState, 2, 0)]), (.minOff, [9000, 9000, 0, 0, 2], [(.coolingState, 1, 0)]),
        (.minOff, [9000, 600000, 0, 0, 0], [(.coolingState, 1, 0)]), (.off, [180000, 0, 0, 0, 2], [(.coolingState, 0, 0)]),
        (.minOff, [7, 5, 700, 60, 2], []), (.off, [7, 5, 700, 60, 2], [])] := by decide +kernel

/-- R85, R90: after a step at 40, a step with ramp 0 is shown and held at once and one with ramp 100 starts there; the second program
step and a program loaded on a dark light likewise. -/
theorem test_meets_step_began :
    let shown (t : State) : Option Phase × Nat :=
      ((t.light .lower).active.map (·.phase), (t.light .lower).present)
    let f (ramp : Nat) : Option Phase × Nat :=
      let a : Active := ⟨⟨1, 1, [⟨40, 0, 0⟩, ⟨80, ramp, 250⟩]⟩, 1, 1, .hold 1, 1⟩
      shown (run (.programStepEnd .lower)
        (base.setLight .lower { LightRec.start 60 with active := some a, present := 40, applied := 40 }))
    let g (ramp : Byte) : Option Phase × Nat := shown (run (.loadProgram 1 [4, 0, 1, 1, 80, ramp, 1]) base)
    [f 0, f 100, g 0, g 2] =
      [(some (.hold 0), 80), (some (.ramp ⟨40, 80, 100, 0⟩), 40), (some (.hold 0), 80), (some (.ramp ⟨0, 80, 100, 0⟩), 0)] := by
  decide +kernel

/-- The times of the cooling record in ms and in sets: minimum-off left, time since switch-off, off time left, step time. -/
def coolTimes (t : State) : List Nat := [t.cool.minOff, t.cool.sinceOff, t.cool.offLeft, t.cool.stepSets]

/-- R68, R70, R72, R75 at one set: MIN_OFF, OFF, and RUNNING with the compressor driven; the lid timer of each. -/
theorem test_meets_off_times :
    let c (st : CState) : Cooling :=
      { Cooling.start with state := st, on := true, minOff := 9000, sinceOff := 171000, offLeft := 500, lidSets := some 7 }
    let r := { withCool { c .running with minOff := 0, step := .mid, cspd := 700, stepSets := 4 } with meas := supplied 50 24000 }
    let r := r.setChan .compressor { r.chan .compressor with mode := .duty, state := .driving, computed := 1000, applied := 1000 }
    let f (s : State) : List Nat := coolTimes (run (.sampleSet (quiet 2400 0 true)) { s with meas := supplied 50 24000 })
    [f (withCool (c .minOff)), f (withCool (c .off)), f r] =
        [[8990, 171010, 490, 0], [8990, 171010, 500, 0], [0, 171010, 500, 5]] ∧
      (run (.sampleSet (quiet 2400 0 true)) r).cool.lidSets = some 8 ∧ r.out.recs.compressor.state = .driving := by
  decide +kernel

/-- R38, R45, R49, R51 at one set of a heater: the state time, the run timer and the restart wait, and P_eff half way up a ramp. -/
theorem test_meets_heater_times :
    let f (h : Heater) : HState × List Nat × RunTimer :=
      let t := run (.sampleSet (heatSet 500 false)) (heated 50 500 h)
      (t.htr.state, [t.htr.stateSets, t.htr.restartWait, t.htr.runSets, t.htr.peff], t.htr.runTimer)
    [f { Heater.start with state := .check, stateSets := 5, runTimer := .left 60 },
        f { Heater.start with state := .glow, stateSets := 6, runTimer := .unlimited },
        f { Heater.start with state := .waitDemand, stateSets := 7, restartWait := 100, runTimer := .left 1 },
        f { Heater.start with state := .run, stateSets := 8, runSets := 9, peff := 1000, ramp := some ⟨1000, 2000, 9990⟩ }] =
      [(.check, [6, 0, 0, 0], .left 59), (.glow, [7, 0, 0, 0], .unlimited), (.waitDemand, [8, 99, 0, 0], .left 0),
        (.run, [9, 0, 10, 1500], .absent)] := by decide +kernel

/-- R49: a 100th set in RUN counts toward idle-off at stage 1 with the cab 1.5 K or more above the target; R42: the hundredth set of
an exchanger second, and one within it. -/
theorem test_meets_run_counts :
    let h : Heater := { Heater.start with state := .run, mode := .thermostat, target := 50, idleOff := 7, secMax := some 450 }
    let cab (n : Nat) (h : Heater) : State :=
      let s := heated n 500 h
      { s with meas := { s.meas with
        tsc := ⟨List.replicate 7 200, 0, 10, false, .valid, 200⟩, cabRing := List.replicate 9 200, cabMean := 200 } }
    let f (n : Nat) (h : Heater) : Nat × List Int × Option Int × Nat :=
      let t := run (.sampleSet (heatSet 500 false)) (cab n h)
      (t.htr.idleOff, t.htr.peakRing, t.htr.secMax, t.htr.secSets)
    [f 100 h, f 99 h, f 100 { h with stage := 2, mode := .fixed, secSets := 99 }] =
      [(8, [], some 500, 1), (7, [], some 500, 1), (7, [500], none, 0)] := by decide +kernel

/-- R27, R96: the retry wait of a TRIPPED record and the wake chime timer at one set. -/
theorem test_meets_waits_counted :
    let s := { base with meas := supplied 50 24000, lgt := { base.lgt with wakeTimer := some 60000 } }
    let s := s.setChan .fan { s.chan .fan with mode := .duty, state := .tripped, demand := some 900, retry := some 2000 }
    let t := run (.sampleSet (quiet 2400 0 false)) s
    (t.chan .fan).state = .tripped ∧ (t.chan .fan).retry = some 1990 ∧ t.lgt.wakeTimer = some 59990 := by decide +kernel

/-- R110, R113: the second part of a split break clears the continuous warnings, not the daily ones; the daily rest clears both. -/
theorem test_meets_split_latches :
    let f (rest : Nat) (marks : Marks) : List Nat × List Bool × List (Option Nat) :=
      let t := run .timerSecond (withDuty { Duty.start with
        current := ⟨.rest, .open, 0, 0⟩, ns := rest, marks := marks, sp := true, cd := 16200, dd := 36000
        cdPre := true, cdLimit := true, cdRepeat := some 5, ddPre := true, ddLimit := true, ddRepeat := some 6 })
      ([t.duty.cd, t.duty.dd], [t.duty.cdPre, t.duty.cdLimit, t.duty.ddPre, t.duty.ddLimit], [t.duty.cdRepeat, t.duty.ddRepeat])
    [f 1799 ⟨true, false, false, false⟩, f 1798 ⟨true, false, false, false⟩, f 39599 ⟨true, true, true, false⟩] =
      [([0, 36000], [false, false, true, true], [none, some 6]),
        ([16200, 36000], [true, true, true, true], [some 5, some 6]),
        ([0, 0], [false, false, false, false], [none, none])] := by decide +kernel

/-- R8, R79: the end of settling with no in-range TSF reading and with one, in MIN_OFF. -/
theorem test_meets_settling_fallback :
    let f (inn : Nat) : Bool × Nat :=
      let c : Cooling := { Cooling.start with state := .minOff, on := true, minOff := 180000, offLeft := 180000 }
      let t := run .settlingEnd { withCool c with
        sys := ⟨.settling, .pin, false, 10⟩, meas := { Meas.start with sets := 16, tsf := sensorIn .fault 0 inn } }
      (t.cool.fallback, t.cool.offLeft)
    [f 0, f 1] = [(true, 600000), (false, 180000)] := by decide +kernel

end Sys2Proof.Tests
end

section
/-! SUPPORT. The thermal hold is written by its judgement alone: every demand, trip, latch and stroke of a sample set writes
channel records and the stroke fields (R31). So the hold that the set leaves is the one that `judgeThermal` found in it. -/

namespace Sys2Proof.Machine

/-! ### Operations that leave the output stage alone -/

@[simp] theorem requestAlert_out (p : Pattern) (s : State) : (requestAlert p s).out = s.out :=
  (requestAlert_frame p s).same .out (by decide)

@[simp] theorem endPrograms_out (l : Light) (w : EndReason) (s : State) : (endPrograms l w s).out = s.out :=
  (endPrograms_frame l w s).same .out (by decide)

@[simp] theorem skipParts_out (l : Light) (f : Pattern → Bool) (s : State) : (skipParts l f s).out = s.out :=
  (skipParts_frame l f s).same .out (by decide)

@[simp] theorem lightLatched_out (l : Light) (s : State) : (lightLatched l s).out = s.out :=
  (lightLatched_frame l s).same .out (by decide)

@[simp] theorem requestPartWrite_out (s : State) : (requestPartWrite s).out = s.out :=
  (requestPartWrite_frame s).same .out (by decide)

@[simp] theorem setNext_out (n : Next) (c : Option Cause) (s : State) : (setNext n c s).out = s.out :=
  (setNext_frame n c s).same .out (by decide)

@[simp] theorem purgeMaxTest_out (s : State) : (purgeMaxTest s).out = s.out := rfl

@[simp] theorem heaterRelease_out (s : State) : (heaterRelease s).out = s.out := rfl

@[simp] theorem postCoolingState_out (w : CoolReason) (s : State) : (postCoolingState w s).out = s.out := rfl

@[simp] theorem postCoolingFault_out (s : State) : (postCoolingFault s).out = s.out := rfl

@[simp] theorem coolingDegrade_out (on : Bool) (s : State) : (coolingDegrade on s).out = s.out :=
  (coolingDegrade_frame on s).same .out (by decide)

@[simp] theorem coolingRelease_out (s : State) : (coolingRelease s).out = s.out := rfl

@[simp] theorem startCheckPass_out (s : State) : (startCheckPass s).out = s.out :=
  (startCheckPass_frame s).same .out (by decide)

@[simp] theorem cutInTest_out (s : State) : (cutInTest s).out = s.out := rfl

@[simp] theorem account_out (s : State) : (account s).out = s.out := rfl

@[simp] theorem keepRestoreHold_out (s : State) : (keepRestoreHold s).out = s.out := rfl

@[simp] theorem supplyRuns_out (s : State) : (supplyRuns s).out = s.out := rfl

@[simp] theorem measure_out (r : RawSet) (s : State) : (measure r s).out = s.out := rfl

@[simp] theorem lidAtStart_out (s : State) : (lidAtStart s).out = s.out :=
  (lidAtStart_frame s).same .out (by decide)

/-! ### The owners leave the thermal hold -/

@[simp] theorem refresh_thermalHold (l : Light) (s : State) : (refresh l s).out.thermalHold = s.out.thermalHold := by
  unfold refresh; dsimp only; split
  · rfl
  · simp [writeLevel]

@[simp] theorem lightDegrade_thermalHold (l : Light) (on : Bool) (s : State) :
    (lightDegrade l on s).out.thermalHold = s.out.thermalHold := by simp [lightDegrade]

@[simp] theorem lightShed_thermalHold (l : Light) (s : State) :
    (lightShed l s).out.thermalHold = s.out.thermalHold := by simp [lightShed]

@[simp] theorem lightsRefresh_thermalHold (s : State) :
    (lightsRefresh s).out.thermalHold = s.out.thermalHold := by simp [lightsRefresh]

@[simp] theorem enterHeater_thermalHold (st : HState) (h : Heater) (s : State) :
    (enterHeater st h s).out.thermalHold = s.out.thermalHold := rfl

@[simp] theorem enterOff_thermalHold (s : State) : (enterOff s).out.thermalHold = s.out.thermalHold := rfl

@[simp] theorem enterCheck_thermalHold (o : Origin) (s : State) :
    (enterCheck o s).out.thermalHold = s.out.thermalHold := rfl

@[simp] theorem enterWait_thermalHold (n : Nat) (s : State) :
    (enterWait n s).out.thermalHold = s.out.thermalHold := rfl

@[simp] theorem enterPurge_thermalHold (p : Purge) (s : State) :
    (enterPurge p s).out.thermalHold = s.out.thermalHold := rfl

@[simp] theorem enterLockout_thermalHold (c : Option Cause) (s : State) :
    (enterLockout c s).out.thermalHold = s.out.thermalHold := by simp [enterLockout]

@[simp] theorem declineStart_thermalHold (w : Decline) (v : Int) (s : State) :
    (declineStart w v s).out.thermalHold = s.out.thermalHold := by
  unfold declineStart; dsimp only; split <;> simp

@[simp] theorem changeStage_thermalHold (n : Nat) (s : State) :
    (changeStage n s).out.thermalHold = s.out.thermalHold := rfl

@[simp] theorem takeFixedStage_thermalHold (s : State) :
    (takeFixedStage s).out.thermalHold = s.out.thermalHold := by
  unfold takeFixedStage; dsimp only; repeat' split
  all_goals rfl

@[simp] theorem pumpFault_thermalHold (s : State) : (pumpFault s).out.thermalHold = s.out.thermalHold := by
  unfold pumpFault; split <;> simp

@[simp] theorem flameDetected_thermalHold (s : State) :
    (flameDetected s).out.thermalHold = s.out.thermalHold := rfl

@[simp] theorem windowExpired_thermalHold (s : State) :
    (windowExpired s).out.thermalHold = s.out.thermalHold := by
  unfold windowExpired; dsimp only; split <;> simp

@[simp] theorem flameOut_thermalHold (s : State) : (flameOut s).out.thermalHold = s.out.thermalHold := by
  unfold flameOut; split <;> simp

@[simp] theorem overheat_thermalHold (s : State) : (overheat s).out.thermalHold = s.out.thermalHold := by
  unfold overheat; split <;> simp

@[simp] theorem purgeEnds_thermalHold (p : Purge) (s : State) :
    (purgeEnds p s).out.thermalHold = s.out.thermalHold := by
  unfold purgeEnds; split <;> simp

@[simp] theorem purgeEndTest_thermalHold (s : State) :
    (purgeEndTest s).out.thermalHold = s.out.thermalHold := by
  unfold purgeEndTest; repeat' split
  all_goals simp

@[simp] theorem heaterSet_thermalHold (b : Bool) (s : State) :
    (heaterSet b s).out.thermalHold = s.out.thermalHold := by
  have hot (t : State) : (if overheated t then overheat t else t).out.thermalHold = t.out.thermalHold := by
    split <;> simp
  simp only [heaterSet, purgeMaxTest_out, hot]
  repeat' split
  all_goals simp

@[simp] theorem thermostatEvaluation_thermalHold (s : State) :
    (thermostatEvaluation s).out.thermalHold = s.out.thermalHold := by
  unfold thermostatEvaluation; dsimp only; repeat' split
  all_goals simp

@[simp] theorem heaterAtSet_thermalHold (b : Bool) (s : State) :
    (heaterAtSet b s).out.thermalHold = s.out.thermalHold := by
  unfold heaterAtSet; dsimp only; split <;> simp

@[simp] theorem heaterLatched_thermalHold (c : Consumer) (s : State) :
    (heaterLatched c s).out.thermalHold = s.out.thermalHold := by
  unfold heaterLatched; repeat' split
  all_goals simp

@[simp] theorem heaterHold_thermalHold (c : Cause) (s : State) :
    (heaterHold c s).out.thermalHold = s.out.thermalHold := by
  unfold heaterHold; dsimp only; split <;> simp

@[simp] theorem heaterDegrade_thermalHold (on : Bool) (s : State) :
    (heaterDegrade on s).out.thermalHold = s.out.thermalHold := by
  unfold heaterDegrade; repeat' split
  all_goals simp

@[simp] theorem heaterShed_thermalHold (s : State) : (heaterShed s).out.thermalHold = s.out.thermalHold := by
  unfold heaterShed; split <;> simp

@[simp] theorem compressorOff_thermalHold (s : State) :
    (compressorOff s).out.thermalHold = s.out.thermalHold := by
  unfold compressorOff; split <;> simp

@[simp] theorem enterCooling_thermalHold (st : CState) (w : CoolReason) (s : State) :
    (enterCooling st w s).out.thermalHold = s.out.thermalHold := by simp [enterCooling]

@[simp] theorem enterMinOff_thermalHold (w : CoolReason) (s : State) :
    (enterMinOff w s).out.thermalHold = s.out.thermalHold := by simp [enterMinOff]

@[simp] theorem failedRun_thermalHold (w : CoolReason) (s : State) :
    (failedRun w s).out.thermalHold = s.out.thermalHold := by
  unfold failedRun; dsimp only; split <;> simp

@[simp] theorem coolingTrip_thermalHold (s : State) : (coolingTrip s).out.thermalHold = s.out.thermalHold := by
  unfold coolingTrip; split <;> simp

@[simp] theorem coolingLatch_thermalHold (s : State) : (coolingLatch s).out.thermalHold = s.out.thermalHold := by
  unfold coolingLatch; split <;> simp

@[simp] theorem coolingHold_thermalHold (s : State) : (coolingHold s).out.thermalHold = s.out.thermalHold := by
  unfold coolingHold; dsimp only; split <;> simp

@[simp] theorem coolingShed_thermalHold (s : State) : (coolingShed s).out.thermalHold = s.out.thermalHold := by
  unfold coolingShed; dsimp only; repeat' split
  all_goals simp

@[simp] theorem cutOutTest_thermalHold (s : State) : (cutOutTest s).out.thermalHold = s.out.thermalHold := by
  unfold cutOutTest; split <;> simp

/-! ### The reserve account leaves the thermal hold -/

@[simp] theorem handStep_thermalHold (x : LadderStep) (s : State) :
    (handStep x s).out.thermalHold = s.out.thermalHold := by
  unfold handStep; split <;> simp

@[simp] theorem applyStep_thermalHold (c : StepCause) (s : State) :
    (applyStep c s).out.thermalHold = s.out.thermalHold := by
  unfold applyStep; split <;> simp

@[simp] theorem applySteps_thermalHold (c : StepCause) (n : Nat) (s : State) :
    (applySteps c n s).out.thermalHold = s.out.thermalHold := by
  induction n generalizing s with
  | zero => rfl
  | succ n ih => simp [applySteps, ih]

@[simp] theorem accountingSecond_thermalHold (s : State) :
    (accountingSecond s).out.thermalHold = s.out.thermalHold := by
  unfold accountingSecond applyAlerted applyRest; dsimp only; repeat' split
  all_goals simp

@[simp] theorem secondSet_thermalHold (s : State) : (secondSet s).out.thermalHold = s.out.thermalHold := by
  simp [secondSet, oneSecondMeans]

/-! ### The output stage before its judgements leaves the thermal hold -/

theorem reportTrip_thermalHold (c : Consumer) (s : State) :
    (reportTrip c s).out.thermalHold = s.out.thermalHold := by
  unfold reportTrip; split <;> simp

theorem reportLatch_thermalHold (c : Consumer) (s : State) :
    (reportLatch c s).out.thermalHold = s.out.thermalHold := by
  unfold reportLatch; split <;> simp

theorem cutFor_thermalHold (c : Consumer) (s : State) : (cutFor c s).out.thermalHold = s.out.thermalHold := by
  unfold cutFor; split <;> simp

theorem overcurrent_thermalHold (c : Consumer) (s : State) :
    (overcurrent c s).out.thermalHold = s.out.thermalHold := by
  have off (t : State) : (if c = .compressor then switchOff t else t).out.thermalHold = t.out.thermalHold := by
    split <;> simp
  have report (t : State) :
      (if (t.chan c).state = .latched then reportLatch c (post .channelFault 1 (consumerNumber c) t)
       else reportTrip c (post .channelFault 0 (consumerNumber c) t)).out.thermalHold = t.out.thermalHold := by
    split
    · exact reportLatch_thermalHold ..
    · exact reportTrip_thermalHold ..
  exact (report _).trans ((off _).trans (cutFor_thermalHold ..))

theorem overcurrents_thermalHold (s : State) : (overcurrents s).out.thermalHold = s.out.thermalHold := by
  unfold overcurrents
  induction allConsumers generalizing s with
  | nil => rfl
  | cons c l ih =>
    rw [List.foldl_cons, ih]
    split
    · exact overcurrent_thermalHold c s
    · rfl

theorem compensateSet_thermalHold (s : State) : (compensateSet s).out.thermalHold = s.out.thermalHold := by
  unfold compensateSet compensateHold; repeat' split
  all_goals simp [pumpDuty]

theorem slots_thermalHold (s : State) : (slots s).out.thermalHold = s.out.thermalHold := rfl

theorem slewSet_thermalHold (s : State) : (slewSet s).out.thermalHold = s.out.thermalHold := rfl

theorem openRunsSet_thermalHold (before s : State) :
    (openRunsSet before s).out.thermalHold = s.out.thermalHold := rfl

theorem tickTimes_thermalHold (s : State) : (tickTimes s).out.thermalHold = s.out.thermalHold := rfl

/-! ### The judgements -/

/-- What the first hold to begin does to its owners changes no hold (R32). -/
theorem holdBegins_thermalHold (c : Cause) (s : State) :
    (holdBegins c s).out.thermalHold = s.out.thermalHold := by
  unfold holdBegins; dsimp only; repeat' split
  all_goals simp

/-- What the last hold to end does to its owners changes no hold (R32). -/
theorem holdEnds_thermalHold (s : State) : (holdEnds s).out.thermalHold = s.out.thermalHold := by
  unfold holdEnds; dsimp only; repeat' split
  all_goals simp

/-- A judgement gives the thermal hold the value judged. -/
theorem withHolds_thermalHold (floor thermal : Bool) (c : Cause) (s : State) :
    (withHolds floor thermal c s).out.thermalHold = thermal := by
  unfold withHolds; dsimp only; repeat' split
  all_goals simp [holdBegins_thermalHold, holdEnds_thermalHold]

/-- The supply floor judgement leaves the thermal hold (R30). -/
theorem judgeFloor_thermalHold (s : State) : (judgeFloor s).out.thermalHold = s.out.thermalHold :=
  withHolds_thermalHold ..

/-- The thermal hold after a reported die temperature (R31). -/
def thermalJudged (die : Int) (was : Bool) : Bool :=
  if 1500 ≤ die then true else if die < 1350 then false else was

theorem judgeThermal_thermalHold (s : State) :
    (judgeThermal s).out.thermalHold = thermalJudged s.meas.dieReported s.out.thermalHold := by
  simp [judgeThermal, withHolds_thermalHold, judgedHold, thermalJudged]

/-! ### The measurements stand while the rest of a set is done -/

theorem tickTimes_meas (s : State) : (tickTimes s).meas = s.meas := rfl

theorem lidAtStart_meas (s : State) : (lidAtStart s).meas = s.meas :=
  (lidAtStart_frame s).same .meas (by decide)

theorem slots_meas (s : State) : (slots s).meas = s.meas := rfl

theorem slewSet_meas (s : State) : (slewSet s).meas = s.meas := rfl

theorem openRunsSet_meas (before s : State) : (openRunsSet before s).meas = s.meas := rfl

theorem overcurrents_meas (s : State) : (overcurrents s).meas = s.meas :=
  (overcurrents_frame s).same .meas (by decide)

theorem compensateSet_meas (s : State) : (compensateSet s).meas = s.meas :=
  (compensateSet_frame s).same .meas (by decide)

theorem judgeFloor_meas (s : State) : (judgeFloor s).meas = s.meas :=
  (judgeFloor_frame s).same .meas (by decide)

theorem outputSet_meas (s : State) : (outputSet s).meas = s.meas :=
  (outputSet_frame s).same .meas (by decide)

theorem secondSet_meas (s : State) : (secondSet s).meas = s.meas :=
  (secondSet_frame s).same .meas (by decide)

theorem heaterAtSet_meas (b : Bool) (s : State) : (heaterAtSet b s).meas = s.meas :=
  (heaterAtSet_frame b s).same .meas (by decide)

theorem cutOutTest_meas (s : State) : (cutOutTest s).meas = s.meas :=
  (cutOutTest_frame s).same .meas (by decide)

theorem lightsRefresh_meas (s : State) : (lightsRefresh s).meas = s.meas :=
  (lightsRefresh_frame s).same .meas (by decide)

/-! ### The sample set -/

/-- The output stage judges the thermal hold once in a set, with the die temperature and the hold of before (R31). -/
theorem outputSet_thermalHold (s : State) :
    (outputSet s).out.thermalHold = thermalJudged s.meas.dieReported s.out.thermalHold := by
  have hmeas : (judgeFloor (openRunsSet s (overcurrents (slewSet (compensateSet (slots s)))))).meas = s.meas := by
    rw [judgeFloor_meas, openRunsSet_meas, overcurrents_meas, slewSet_meas, compensateSet_meas, slots_meas]
  have hhold : (judgeFloor (openRunsSet s (overcurrents (slewSet (compensateSet (slots s)))))).out.thermalHold =
      s.out.thermalHold := by
    rw [judgeFloor_thermalHold, openRunsSet_thermalHold, overcurrents_thermalHold, slewSet_thermalHold,
      compensateSet_thermalHold, slots_thermalHold]
  rw [outputSet, judgeThermal_thermalHold, hmeas, hhold]

/-- What a sample set measures stands to its end. -/
theorem sampleTaken_meas (r : RawSet) (s : State) : (sampleTaken r s).meas = (measure r s).meas := by
  have second (t : State) : (if wholeSecond t then secondSet t else t).meas = t.meas := by
    split
    · exact secondSet_meas t
    · rfl
  have cutIn (t : State) : (cutInTest t).meas = t.meas := rfl
  have supply (t : State) : (supplyRuns t).meas = t.meas := rfl
  simp only [sampleTaken, lightsRefresh_meas, cutIn, cutOutTest_meas, heaterAtSet_meas, second, supply, outputSet_meas,
    lidAtStart_meas, tickTimes_meas]

/-- A sample set judges the thermal hold with the die temperature that it reports (R31). -/
theorem sampleTaken_thermalHold (r : RawSet) (s : State) :
    (sampleTaken r s).out.thermalHold = thermalJudged (sampleTaken r s).meas.dieReported s.out.thermalHold := by
  have second (t : State) : (if wholeSecond t then secondSet t else t).out.thermalHold = t.out.thermalHold := by
    split
    · exact secondSet_thermalHold t
    · rfl
  calc (sampleTaken r s).out.thermalHold
    _ = (outputSet (lidAtStart (tickTimes (measure r s)))).out.thermalHold := by
        simp only [sampleTaken, lightsRefresh_thermalHold, cutInTest_out, cutOutTest_thermalHold, heaterAtSet_thermalHold,
          second, supplyRuns_out]
    _ = thermalJudged (measure r s).meas.dieReported s.out.thermalHold := by
        rw [outputSet_thermalHold, lidAtStart_meas, tickTimes_meas, lidAtStart_out, tickTimes_thermalHold, measure_out]
    _ = thermalJudged (sampleTaken r s).meas.dieReported s.out.thermalHold := by rw [sampleTaken_meas]

theorem withStretch_out (before s : State) : (withStretch before s).out = s.out := rfl

theorem withStretch_meas (before s : State) : (withStretch before s).meas = s.meas := rfl

/-- Outside reset a sample set is taken, and then the stretch timers follow (R1, R169). -/
theorem exec_sampleSet {s : State} (h : Awake s) (r : RawSet) :
    exec (.sampleSet r) s = .next (withStretch s (sampleTaken r s)) :=
  live_awake h fun s => withStretch s (sampleTaken r s)

/-! ### The THERMAL class and the resets -/

/-- An active thermal hold makes the THERMAL class active (R31, R169). -/
theorem faultClasses_thermal {s : State} (h : s.out.thermalHold = true) : (faultClasses s)[3]? = some true := by
  simp [faultClasses, h]

theorem exec_powerOnReset (s : State) : exec .powerOnReset s = .next (heldInReset .powerOn s) := rfl

theorem exec_pinReset (s : State) :
    exec .pinReset s =
      .next (heldInReset (if s.sys.phase = .inReset ∧ s.sys.cause = .powerOn then .powerOn else .pin) s) := rfl

/-- A part held in reset has no thermal hold, whatever the cause of the reset (R31). -/
theorem heldInReset_thermalHold (c : ResetCause) (s : State) : (heldInReset c s).out.thermalHold = false := rfl

/-- Settles O17: the judgement is the last that a sample set does to the hold, and a reset clears it. -/
theorem sampleSetJudgesTheThermalHold : Obligations.SampleSetJudgesTheThermalHold := by
  refine ⟨fun r s h => ?_, fun s => ?_, fun s => faultClasses_thermal⟩
  · refine ⟨_, exec_sampleSet h r, ?_⟩
    rw [withStretch_out, withStretch_meas]
    exact sampleTaken_thermalHold r s
  · exact ⟨_, _, exec_powerOnReset s, heldInReset_thermalHold .powerOn s, exec_pinReset s, heldInReset_thermalHold _ s⟩

end Sys2Proof.Machine
end

section
/-! SUPPORT. What a request gets from a free link: its frame is in work while its owner serves it, and the reply follows
(R159, R161). An answer that leaves the state alone is a reply and nothing else. With this, READ PERIODS (R108). -/

namespace Sys2Proof.Machine

/-! ### Requests on a free link -/

/-- The state that the owner of a request serves it in: the frame is in work (R159). -/
def State.inWork (s : State) (f : Frame) : State := { s with lnk := { s.lnk with work := some f } }

theorem takeIntoWork_eq (f : Frame) (s : State) : takeIntoWork f s = dispatch f (s.inWork f) := rfl

theorem settling_iff (s : State) : s.settling = true ↔ s.sys.phase = .settling := by
  simp [State.settling]

/-- Each request has a KIND of its own (Table 93). -/
theorem requestOf_kindOf (r : Request) : requestOf (kindOf r).toNat = some r := by
  cases r <;> rfl

/-- A frame with the KIND of a request is answered by the owner of the request (R161). -/
theorem answerFrame_kindOf (r : Request) (ctr : Byte) (p : List Byte) (s : State) :
    answerFrame ⟨ctr, kindOf r, p⟩ s = serve r p s := by
  simp only [answerFrame, requestOf_kindOf]

/-- A request that finds the link free is dispatched at once (R159). -/
theorem receiveRequest_free {s : State} (h : LinkFree s) (r : Request) (ctr : Byte) (p : List Byte) :
    receiveRequest r ctr p s = .next (takeIntoWork ⟨ctr, kindOf r, p⟩ s) := by
  obtain ⟨hawake, hfree⟩ := h
  rw [receiveRequest, live_awake hawake, arrive_free hfree]

/-- The summary word shows nothing of the link interface (R163). -/
theorem summary_lnk_free (s : State) (k : Link) (n : Nat) : summary { s with lnk := k, free := n } = summary s := rfl

/-- A request whose owner leaves the state alone is replied to, and nothing else happens (R161). -/
theorem takeIntoWork_repliedOnly {r : Request} {ctr : Byte} {p : List Byte} {s : State} {res : Result}
    {payload : List Byte}
    (h : serve r p (s.inWork ⟨ctr, kindOf r, p⟩) = ⟨s.inWork ⟨ctr, kindOf r, p⟩, res, payload⟩) :
    RepliedOnly r ctr p res payload s (takeIntoWork ⟨ctr, kindOf r, p⟩ s) := by
  rw [takeIntoWork_eq, dispatch, answerFrame_kindOf, h]
  refine ⟨⟨rfl, ?_⟩, rfl⟩
  rw [summary_lnk_free]
  rfl

/-! ### READ PERIODS (R108) -/

theorem natBytes_one (v : Nat) : natBytes 1 v = [BitVec.ofNat 8 v] := rfl

/-- A number has as many bytes as asked for. -/
theorem length_natBytes (n v : Nat) : (natBytes n v).length = n := by
  induction n generalizing v with
  | zero => rfl
  | succ n ih => rw [natBytes, List.length_cons, ih]

/-- A field has its width also where its value does not fit (log 9). -/
theorem length_encU (free n v : Nat) : (encU free n v).length = n := by
  unfold encU
  split <;> exact length_natBytes ..

/-- The layout of Table 65 has 10 bytes. -/
theorem length_periodBytes (free : Nat) (x : Period) : (periodBytes free x).length = 10 := by
  simp only [periodBytes, List.length_append, length_natBytes, length_encU]

theorem length_flatMap_periodBytes (free : Nat) (l : List Period) :
    (l.flatMap (periodBytes free)).length = 10 * l.length := by
  simp [List.length_flatMap, length_periodBytes, Nat.mul_comm]

/-- The index of READ PERIODS counts from the current record toward older ones. -/
theorem newestFirst_eq (d : Duty) : d.newestFirst = d.periods.reverse := by
  simp [Duty.newestFirst, Duty.periods]

/-- The records that READ PERIODS returns: up to four, from the index toward older ones. -/
def Duty.periodsFrom (d : Duty) (index : Nat) : List Period := (d.periods.reverse.drop index).take 4

theorem length_periodsFrom (d : Duty) (index : Nat) :
    (d.periodsFrom index).length = min 4 (d.periods.length - index) := by
  rw [Duty.periodsFrom, List.length_take, List.length_drop, List.length_reverse]

/-- The payload of READ PERIODS: the number of records, the number returned, and the records returned. -/
def periodsPayload (s : State) (index : Nat) : List Byte :=
  [BitVec.ofNat 8 s.duty.periods.length, BitVec.ofNat 8 (s.duty.periodsFrom index).length] ++
    (s.duty.periodsFrom index).flatMap (periodBytes s.free)

theorem length_periodsPayload (s : State) (index : Nat) :
    (periodsPayload s index).length = 2 + 10 * (s.duty.periodsFrom index).length := by
  rw [periodsPayload, List.length_append, length_flatMap_periodBytes]
  rfl

/-- The answers of READ PERIODS, in the order of its checks: every one leaves the state as it is. -/
theorem serve_readPeriods (p : List Byte) (s : State) :
    serve .readPeriods p s =
      if p.length ≠ 1 then ⟨s, .badLength, []⟩
      else if 47 < u8At p 0 then ⟨s, .badField, []⟩
      else if s.sys.phase = .settling then ⟨s, .notReady, []⟩
      else ⟨s, .ok, periodsPayload s (u8At p 0)⟩ := by
  have served : serve .readPeriods p s =
      checked 1 p (decide (u8At p 0 ≤ 47)) s fun s => ⟨s, .ok, periodsPayload s (u8At p 0)⟩ := by
    simp only [serve, reqReadPeriods, newestFirst_eq, natBytes_one, List.length_reverse]
    rfl
  simp only [served, checked, refuse, settling_iff, Bool.not_eq_true', decide_eq_false_iff_not, Nat.not_le]

/-- Outside reset and on a free link READ PERIODS is dispatched at once. -/
theorem exec_readPeriods {s : State} (h : LinkFree s) (ctr : Byte) (p : List Byte) :
    exec (.readPeriods ctr p) s = .next (takeIntoWork ⟨ctr, kindOf .readPeriods, p⟩ s) :=
  receiveRequest_free h .readPeriods ctr p

/-- Settles O49: every answer of READ PERIODS leaves the state as it is, so the reply is all that happens. -/
theorem readPeriodsReturnsFourRecords : Obligations.ReadPeriodsReturnsFourRecords := by
  intro ctr p s h
  refine ⟨_, exec_readPeriods h ctr p, ?_⟩
  have answer := serve_readPeriods p (s.inWork ⟨ctr, kindOf .readPeriods, p⟩)
  split_ifs with hlen hindex hsettling
  · exact takeIntoWork_repliedOnly (answer.trans (if_pos hlen))
  · exact takeIntoWork_repliedOnly (answer.trans ((if_neg hlen).trans (if_pos hindex)))
  · exact takeIntoWork_repliedOnly
      (answer.trans ((if_neg hlen).trans ((if_neg hindex).trans (if_pos hsettling))))
  · have hreply := takeIntoWork_repliedOnly
      (answer.trans ((if_neg hlen).trans ((if_neg hindex).trans (if_neg hsettling))))
    exact ⟨s.duty.periodsFrom (u8At p 0), rfl, length_periodsFrom .., periodsPayload s (u8At p 0), hreply,
      length_periodsPayload .., rfl⟩

end Sys2Proof.Machine
end

section
/-! SUPPORT. The answers of a request that begins with the common checks, and the reply when its owner changed the state.
With this, the timer unit's CLEAR TIMER (R131) and READ CLOCK (R127). -/

namespace Sys2Proof.Machine

/-! ### Answers and replies -/

/-- The answers of a request that begins with the common checks: each refusal in its place, else what the owner says. -/
theorem checked_eq (n : Nat) (p : List Byte) (ok : Bool) (s : State) (f : State → Answer) :
    checked n p ok s f =
      if p.length ≠ n then ⟨s, .badLength, []⟩
      else if ok = false then ⟨s, .badField, []⟩
      else if s.sys.phase = .settling then ⟨s, .notReady, []⟩
      else f s := by
  simp only [checked, refuse, settling_iff, Bool.not_eq_true']

/-- After an answer the reply joins the link interface, and the rest of the state is the owner's. -/
theorem takeIntoWork_answered {r : Request} {ctr : Byte} {p : List Byte} {s u : State} {res : Result}
    {payload : List Byte} (h : serve r p (s.inWork ⟨ctr, kindOf r, p⟩) = ⟨u, res, payload⟩) :
    takeIntoWork ⟨ctr, kindOf r, p⟩ s =
      { u with
        lnk := u.lnk.enqueue (replyTo ⟨ctr, kindOf r, p⟩ ⟨u, res, payload⟩)
        free := u.free + 1 } := by
  rw [takeIntoWork_eq, dispatch, answerFrame_kindOf, h]

/-- A request whose owner leaves the link interface alone is replied to, whatever else the owner changes (R161). -/
theorem takeIntoWork_replied {r : Request} {ctr : Byte} {p : List Byte} {s u : State} {res : Result}
    {payload : List Byte} (h : serve r p (s.inWork ⟨ctr, kindOf r, p⟩) = ⟨u, res, payload⟩)
    (hlnk : u.lnk = (s.inWork ⟨ctr, kindOf r, p⟩).lnk) (hfree : u.free = s.free) :
    Replied r ctr p res payload s (takeIntoWork ⟨ctr, kindOf r, p⟩ s) := by
  rw [takeIntoWork_answered h]
  constructor
  · rw [hfree]
  · rw [summary_lnk_free, hlnk]
    rfl

/-! ### CLEAR TIMER (R131) -/

/-- Host entries have the ids 1 to 239 (Table 75). -/
theorem hostId_eq_false_iff (n : Nat) : hostId n = false ↔ n = 0 ∨ 239 < n := by
  rw [hostId, Bool.and_eq_false_iff, decide_eq_false_iff_not, decide_eq_false_iff_not, Nat.not_le, Nat.lt_one_iff,
    Nat.not_le]

/-- Removing an id that no entry has leaves the table as it is. -/
theorem Timer.remove_table_of_absent {t : Timer} {id : Nat} (h : ∀ e ∈ t.table, e.id ≠ id) :
    (t.remove id).table = t.table :=
  List.filter_eq_self.mpr fun e he => bne_iff_ne.mpr (h e he)

/-- The answers of CLEAR TIMER, in the order of its checks: an accepted one removes the entry. -/
theorem serve_clearTimer (p : List Byte) (s : State) :
    serve .clearTimer p s =
      if p.length ≠ 1 then ⟨s, .badLength, []⟩
      else if u8At p 0 = 0 ∨ 239 < u8At p 0 then ⟨s, .badField, []⟩
      else if s.sys.phase = .settling then ⟨s, .notReady, []⟩
      else ⟨{ s with tmr := s.tmr.remove (u8At p 0) }, .ok, []⟩ := by
  simp only [serve, reqClearTimer, checked_eq, hostId_eq_false_iff, done]

/-- Outside reset and on a free link CLEAR TIMER is dispatched at once. -/
theorem exec_clearTimer {s : State} (h : LinkFree s) (ctr : Byte) (p : List Byte) :
    exec (.clearTimer ctr p) s = .next (takeIntoWork ⟨ctr, kindOf .clearTimer, p⟩ s) :=
  receiveRequest_free h .clearTimer ctr p

/-- Settles O44: an accepted CLEAR TIMER is `Timer.remove` and a reply, which filters the id out of the table. -/
theorem clearTimerRemovesAHostEntry : Obligations.ClearTimerRemovesAHostEntry := by
  intro ctr p s h
  refine ⟨_, exec_clearTimer h ctr p, ?_⟩
  have answer := serve_clearTimer p (s.inWork ⟨ctr, kindOf .clearTimer, p⟩)
  split_ifs with hlen hid hsettling
  · exact takeIntoWork_repliedOnly (answer.trans (if_pos hlen))
  · exact takeIntoWork_repliedOnly (answer.trans ((if_neg hlen).trans (if_pos hid)))
  · exact takeIntoWork_repliedOnly (answer.trans ((if_neg hlen).trans ((if_neg hid).trans (if_pos hsettling))))
  · have removed := answer.trans ((if_neg hlen).trans ((if_neg hid).trans (if_neg hsettling)))
    refine ⟨takeIntoWork_replied removed rfl rfl, ?_⟩
    rw [takeIntoWork_answered removed]
    exact ⟨rfl, rfl, rfl, Timer.remove_table_of_absent⟩

/-! ### READ CLOCK (R127) -/

/-- A value that fits a field is written as it is. -/
theorem encU_of_lt {n v : Nat} (free : Nat) (h : v < 256 ^ n) : encU free n v = natBytes n v := if_pos h

/-- The clock as READ CLOCK shows it: the valid flag, the day, hour, minute and second, and the seconds counter. -/
theorem clockPayload_eq {s : State} (h : s.tmr.ok) :
    clockPayload s =
      (if s.tmr.valid then
         [1, BitVec.ofNat 8 (s.tmr.minute / 1440), BitVec.ofNat 8 (s.tmr.minute % 1440 / 60),
          BitVec.ofNat 8 (s.tmr.minute % 60), BitVec.ofNat 8 s.tmr.second]
       else [0, 0, 0, 0, 0]) ++ natBytes 4 s.tmr.seconds := by
  obtain ⟨hseconds, -⟩ := h
  have fits : s.tmr.seconds < 256 ^ 4 := by omega
  rw [clockPayload, encU_of_lt s.free fits]
  cases s.tmr.valid <;> rfl

theorem length_clockPayload (s : State) : (clockPayload s).length = 9 := by
  simp only [clockPayload, List.length_append, length_encU]
  cases s.tmr.valid <;> rfl

/-- The answers of READ CLOCK, in the order of its checks: every one leaves the state as it is. -/
theorem serve_readClock (p : List Byte) (s : State) :
    serve .readClock p s =
      if p.length ≠ 0 then ⟨s, .badLength, []⟩
      else if s.sys.phase = .settling then ⟨s, .notReady, []⟩
      else ⟨s, .ok, clockPayload s⟩ := by
  simp only [serve, reqReadClock, checked_eq, Bool.true_eq_false, if_false]

/-- Outside reset and on a free link READ CLOCK is dispatched at once. -/
theorem exec_readClock {s : State} (h : LinkFree s) (ctr : Byte) (p : List Byte) :
    exec (.readClock ctr p) s = .next (takeIntoWork ⟨ctr, kindOf .readClock, p⟩ s) :=
  receiveRequest_free h .readClock ctr p

/-- Settles O46: every answer of READ CLOCK leaves the state as it is, and a clock in form fits its fields. -/
theorem readClockReturnsTheClock : Obligations.ReadClockReturnsTheClock := by
  intro ctr p s h hok
  refine ⟨_, exec_readClock h ctr p, ?_⟩
  rw [← clockPayload_eq hok]
  have answer := serve_readClock p (s.inWork ⟨ctr, kindOf .readClock, p⟩)
  split_ifs with hlen hsettling
  · exact takeIntoWork_repliedOnly (answer.trans (if_pos hlen))
  · exact takeIntoWork_repliedOnly (answer.trans ((if_neg hlen).trans (if_pos hsettling)))
  · have shown := answer.trans ((if_neg hlen).trans (if_neg hsettling))
    exact ⟨clockPayload s, takeIntoWork_repliedOnly shown, length_clockPayload s, rfl⟩

end Sys2Proof.Machine
end

section
/-! SUPPORT. What every request gets: its owner either accepts it, or refuses it and leaves the state alone, and the link
interface is the dispatch's own (R161, R162). -/

namespace Sys2Proof.Machine

/-! ### Answers -/

/-- The components that the owners of the requests may change: all but the link interface, the counter of free values and the
queue of commands. -/
def ownedComps : List Comp := [.sys, .meas, .out, .htr, .cool, .lgt, .duty, .tmr, .rsv, .ntq, .sto]

/-- The answer is one that R162 allows of a request served in `s`: it changes what the owners own, and where it refuses it is
a bare refusal. -/
structure Answers (s : State) (a : Answer) : Prop where
  frame : ChangesOnly ownedComps s a.state
  refusal : 2 ≤ resultCode a.result → a = refuse a.result s

/-- Table 92 ends with the code 12. -/
theorem resultCode_le (r : Result) : resultCode r ≤ 12 := by
  cases r <;> decide

theorem resultCode_accepted_lt (clamped : Bool) : resultCode (accepted clamped) < 2 := by
  cases clamped <;> decide

theorem answers_refuse (r : Result) (s : State) : Answers s (refuse r s) := ⟨.refl s, fun _ => rfl⟩

/-- An acceptance changes what the owners own. -/
theorem answers_accepted {s t : State} (h : ChangesOnly ownedComps s t) (clamped : Bool) (payload : List Byte) :
    Answers s ⟨t, accepted clamped, payload⟩ :=
  ⟨h, fun hcode => absurd hcode (Nat.not_le.mpr (resultCode_accepted_lt clamped))⟩

theorem answers_ok {s t : State} (h : ChangesOnly ownedComps s t) (payload : List Byte) : Answers s ⟨t, .ok, payload⟩ :=
  answers_accepted h false payload

/-- A request that reads shows a payload. -/
theorem answers_shown (s : State) (payload : List Byte) : Answers s ⟨s, .ok, payload⟩ := answers_ok (.refl s) payload

/-- A check before an answer refuses or lets it through. -/
theorem Answers.guarded {s : State} {a : Answer} {c : Prop} [Decidable c] {r : Result} (h : Answers s a) :
    Answers s (if c then refuse r s else a) := by
  split
  · exact answers_refuse r s
  · exact h

/-- The common checks before an answer refuse or let it through. -/
theorem Answers.checked {s : State} {n : Nat} {p : List Byte} {ok : Bool} {f : State → Answer} (h : Answers s (f s)) :
    Answers s (checked n p ok s f) := h.guarded.guarded.guarded

/-- A request that reads begins with the common checks, and then shows a payload. -/
theorem checked_shown_answers (p : List Byte) (s : State) (n : Nat) (ok : Bool) (payload : State → List Byte) :
    Answers s (checked n p ok s fun s => ⟨s, .ok, payload s⟩) := (answers_shown s (payload s)).checked

/-- What an operation shared with the timer entries returns makes an answer, where its refusals leave the state alone. -/
theorem answers_done {s : State} {r : Result × State} (h : ChangesOnly ownedComps s r.2)
    (hrefused : 2 ≤ resultCode r.1 → r.2 = s) : Answers s (done r.1 r.2) :=
  ⟨h, fun hcode => by rw [hrefused hcode]; rfl⟩

/-! ### Timer unit and rest clock -/

theorem reqSetClock_answers (p : List Byte) (s : State) : Answers s (reqSetClock p s) :=
  .checked (answers_accepted (clockSet_frame ..).mono ..)

theorem reqSetTimer_answers (p : List Byte) (s : State) : Answers s (reqSetTimer p s) := by
  refine .guarded (.guarded ?_)
  split
  · exact .guarded (.guarded (answers_accepted (frame_tmr ..).mono ..))
  · exact answers_refuse ..

theorem reqClearTimer_answers (p : List Byte) (s : State) : Answers s (reqClearTimer p s) :=
  .checked (answers_ok (frame_tmr ..).mono _)

theorem reqListTimers_answers (p : List Byte) (s : State) : Answers s (reqListTimers p s) :=
  .checked (answers_shown ..)

theorem reqSetVehicleState_answers (p : List Byte) (s : State) : Answers s (reqSetVehicleState p s) :=
  .checked (answers_ok (frame_duty ..).mono _)

theorem reqBeginRest_answers (p : List Byte) (s : State) : Answers s (reqBeginRest p s) :=
  .checked (.guarded (.guarded (answers_accepted (beginSession_frame ..).mono ..)))

theorem reqExtendRest_answers (p : List Byte) (s : State) : Answers s (reqExtendRest p s) := by
  refine .checked ?_
  split
  · exact answers_refuse ..
  · next old _ =>
    have extended (x : Session) : ChangesOnly [.duty] s (withSession x s) := frame_duty ..
    dsimp only
    split
    · exact answers_accepted ((extended _).trans (moveEntries_frame ..)) ..
    · split
      · exact answers_accepted (extended _).mono ..
      · exact .guarded (answers_accepted ((extended _).trans (createLinked_frame ..)) ..)

theorem reqEndRest_answers (p : List Byte) (s : State) : Answers s (reqEndRest p s) := by
  refine .checked ?_
  split
  · exact answers_refuse ..
  · exact answers_ok (endSession_frame ..).mono _

theorem reqReadPeriods_answers (p : List Byte) (s : State) : Answers s (reqReadPeriods p s) :=
  .checked (answers_shown ..)

/-! ### Heater and cooling controller -/

theorem reqHeaterStart_answers (p : List Byte) (s : State) : Answers s (reqHeaterStart p s) := by
  refine .checked ?_
  dsimp only
  split
  · exact answers_accepted (tryStart_frame ..).mono ..
  · exact answers_refuse ..

/-- A refused HEATER STOP leaves the state alone (R51). -/
theorem tryStop_refused {s : State} (h : 2 ≤ resultCode (tryStop s).1) : (tryStop s).2 = s := by
  unfold tryStop at h ⊢
  split at h
  · exact absurd h (Nat.not_succ_le_zero 1)
  · next hfitted => rw [if_neg hfitted]

theorem reqHeaterStop_answers (p : List Byte) (s : State) : Answers s (reqHeaterStop p s) :=
  .checked (answers_done (tryStop_frame s).mono tryStop_refused)

theorem reqHeaterSet_answers (p : List Byte) (s : State) : Answers s (reqHeaterSet p s) :=
  .checked (.guarded (.guarded (answers_accepted ((frame_htr ..).trans (heaterSetEffect_frame _)) ..)))

theorem reqClearLockout_answers (p : List Byte) (s : State) : Answers s (reqClearLockout p s) :=
  have written : ChangesOnly [.htr, .sto] s
      (requestPartWrite { s with htr := { s.htr with lockout := { s.htr.lockout with flag := false, cause := none } } }) :=
    (frame_htr ..).trans (requestPartWrite_frame _)
  .checked (.guarded (answers_ok (written.trans (enterOff_frame _)) _))

theorem reqCoolingSet_answers (p : List Byte) (s : State) : Answers s (reqCoolingSet p s) := by
  refine .checked ?_
  dsimp only
  split
  · exact answers_accepted (tryCooling_frame ..).mono ..
  · exact answers_refuse ..

/-! ### Light unit -/

/-- A refused SET LIGHT leaves the state alone (R86). -/
theorem trySetLight_refused {l : Light} {level ramp : Nat} {s : State}
    (h : 2 ≤ resultCode (trySetLight l level ramp s).1) : (trySetLight l level ramp s).2 = s := by
  unfold trySetLight at h ⊢
  split at h
  · next hsettling => rw [if_pos hsettling]
  · next hsettling =>
    split at h
    · next hfitted => rw [if_neg hsettling, if_pos hfitted]
    · exact absurd h (Nat.not_le.mpr (resultCode_accepted_lt _))

theorem reqSetLight_answers (p : List Byte) (s : State) : Answers s (reqSetLight p s) := by
  refine .guarded ?_
  split
  · exact answers_refuse ..
  · exact answers_done (trySetLight_frame ..).mono trySetLight_refused

theorem reqLoadProgram_answers (p : List Byte) (s : State) : Answers s (reqLoadProgram p s) := by
  refine .guarded ?_
  split
  · exact answers_refuse ..
  · next l _ =>
    have replaced : ChangesOnly [.lgt, .ntq] s (if u8At p 1 == 1 then endPrograms l .replaced s else s) :=
      .cond _ (endPrograms_frame ..)
    exact .guarded (.guarded (.guarded (.guarded (.guarded
      (answers_accepted (replaced.trans (placeProgram_frame ..)) ..)))))

theorem reqCancelProgram_answers (p : List Byte) (s : State) : Answers s (reqCancelProgram p s) := by
  refine .guarded ?_
  split
  · exact answers_refuse ..
  · exact .guarded (.guarded (.guarded (answers_ok (cancelPrograms_frame ..).mono _)))

/-! ### Reserve account and output stage -/

theorem reqSetExternalDraw_answers (p : List Byte) (s : State) : Answers s (reqSetExternalDraw p s) :=
  .checked (answers_accepted (frame_rsv ..).mono ..)

theorem reqSetAllowance_answers (p : List Byte) (s : State) : Answers s (reqSetAllowance p s) :=
  .checked (answers_accepted (frame_rsv ..).mono ..)

theorem reqResetAccount_answers (p : List Byte) (s : State) : Answers s (reqResetAccount p s) :=
  .checked (answers_ok (refill_frame ..).mono _)

theorem reqClearChannelFault_answers (p : List Byte) (s : State) : Answers s (reqClearChannelFault p s) := by
  refine .guarded ?_
  split
  · exact answers_refuse ..
  · exact .guarded (.guarded (answers_ok (ChangesOnly.cond _ (clearLatch_frame ..)).mono _))

/-! ### Settings store and start-up -/

theorem reqReadSetting_answers (p : List Byte) (s : State) : Answers s (reqReadSetting p s) := by
  refine .guarded ?_
  split
  · exact answers_refuse ..
  · exact .guarded (.guarded (answers_shown ..))

theorem reqWriteSetting_answers (p : List Byte) (s : State) : Answers s (reqWriteSetting p s) := by
  refine .guarded ?_
  split
  · exact answers_refuse ..
  · refine .guarded (.guarded (.guarded (.guarded ?_)))
    split
    · exact answers_accepted (frame_sto ..).mono ..
    · exact answers_refuse ..

theorem reqCommitBlock_answers (p : List Byte) (s : State) : Answers s (reqCommitBlock p s) := by
  refine .guarded ?_
  split
  · exact answers_refuse ..
  · exact .guarded (.guarded (.guarded (answers_ok (frame_sto ..).mono _)))

theorem reqCheckStore_answers (p : List Byte) (s : State) : Answers s (reqCheckStore p s) :=
  .checked (.guarded (answers_ok (frame_sto ..).mono _))

theorem reqLockDutyRules_answers (p : List Byte) (s : State) : Answers s (reqLockDutyRules p s) :=
  .guarded (.guarded (.guarded (.guarded (answers_ok (frame_sto ..).mono _))))

theorem reinitHeater_frame (s : State) : ChangesOnly [.htr, .ntq] s (reinitHeater s) := by
  have reported (c : Prop) [Decidable c] (u : State) :
      ChangesOnly [.ntq] u (postLockoutHeld (if c then u else postHeaterState u)) := by
    split
    · exact postLockoutHeld_frame u
    · exact (postHeaterState_frame u).comp (postLockoutHeld_frame _)
  exact (frame_htr ..).trans (reported ..)

theorem reinitialised_frame (s : State) : ChangesOnly ownedComps s (reinitialised s) := by
  have reloaded : ChangesOnly [.sys, .sto] s
      { s with sys := { s.sys with cause := .reinitialise }, sto := s.sto.reload } :=
    (frame_sys s _).trans (frame_sto _ _)
  have started (u : State) : ChangesOnly [.ntq, .meas, .out, .lgt, .rsv] u
      (startReserve (startLights (startOut (reinitCurrents (restartQueue u))))) :=
    ((restartQueue_frame u).trans (reinitCurrents_frame _) (rs := [.ntq, .meas])).trans
      (((startOut_frame _).trans (startLights_frame _) (rs := [.out, .lgt])).trans (startReserve_frame _)
        (rs := [.out, .lgt, .rsv]))
  have owners (u : State) : ChangesOnly [.htr, .cool, .out, .lgt, .rsv, .ntq] u
      (postDefaults (reinitReserve (reinitCooling (reinitHeater u)))) :=
    ((reinitHeater_frame u).trans (reinitCooling_frame _) (rs := [.htr, .cool, .ntq])).trans
      ((reinitReserve_frame _).trans (postDefaults_frame _) (rs := [.htr, .cool, .out, .lgt, .rsv, .ntq]))
  exact (reloaded.trans (started _) (rs := ownedComps)).trans (owners _)

theorem reqReinitialise_answers (p : List Byte) (s : State) : Answers s (reqReinitialise p s) :=
  .checked (.guarded (.guarded (answers_ok (reinitialised_frame s) _)))

/-! ### Command link -/

theorem reqTakeNotices_answers (p : List Byte) (s : State) : Answers s (reqTakeNotices p s) :=
  .guarded (answers_accepted ((frame_ntq ..).comp (postLost_frame ..)).mono ..)

/-- Every request is answered as R162 has it. -/
theorem serve_answers (r : Request) (p : List Byte) (s : State) : Answers s (serve r p s) := by
  cases r with
  | takeNotices => exact reqTakeNotices_answers p s
  | reinitialise => exact reqReinitialise_answers p s
  | setVehicleState => exact reqSetVehicleState_answers p s
  | setExternalDraw => exact reqSetExternalDraw_answers p s
  | setClock => exact reqSetClock_answers p s
  | setTimer => exact reqSetTimer_answers p s
  | clearTimer => exact reqClearTimer_answers p s
  | heaterStart => exact reqHeaterStart_answers p s
  | heaterStop => exact reqHeaterStop_answers p s
  | heaterSet => exact reqHeaterSet_answers p s
  | clearHeaterLockout => exact reqClearLockout_answers p s
  | coolingSet => exact reqCoolingSet_answers p s
  | setLight => exact reqSetLight_answers p s
  | loadProgram => exact reqLoadProgram_answers p s
  | cancelProgram => exact reqCancelProgram_answers p s
  | beginRest => exact reqBeginRest_answers p s
  | extendRest => exact reqExtendRest_answers p s
  | endRest => exact reqEndRest_answers p s
  | setAllowance => exact reqSetAllowance_answers p s
  | resetAccount => exact reqResetAccount_answers p s
  | clearChannelFault => exact reqClearChannelFault_answers p s
  | readSetting => exact reqReadSetting_answers p s
  | writeSetting => exact reqWriteSetting_answers p s
  | commitBlock => exact reqCommitBlock_answers p s
  | checkStore => exact reqCheckStore_answers p s
  | lockDutyRules => exact reqLockDutyRules_answers p s
  | status | storeStatus => exact .guarded (answers_shown ..)
  | listTimers => exact reqListTimers_answers p s
  | readPeriods => exact reqReadPeriods_answers p s
  | readMeasurements | readClock | heaterStatus | coolingStatus | lightStatus | dutyStatus | reserveStatus
  | channelStatus => exact checked_shown_answers p s ..

/-- Every frame is answered as R162 has it, one of an unknown kind by a refusal (R161). -/
theorem answerFrame_answers (f : Frame) (s : State) : Answers s (answerFrame f s) := by
  unfold answerFrame
  split
  · exact serve_answers ..
  · exact answers_refuse ..

/-! ### Replies -/

/-- The owners leave the counter of free values, which the dispatch moves on. -/
theorem dispatch_free (f : Frame) (s : State) : (dispatch f s).free = s.free + 1 :=
  congrArg (· + 1) ((answerFrame_answers f s).frame.same .free (by decide))

/-- The reply to a frame joins the link interface as it was before, and shows the summary word of the state after (R161). -/
theorem dispatch_lnk (f : Frame) (s : State) :
    (dispatch f s).lnk =
      s.lnk.enqueue
        (.reply (replyFrame f.ctr f.kind (BitVec.ofNat 8 (resultCode (answerFrame f s).result)) (summary (dispatch f s))
          (answerFrame f s).payload)) := by
  have hlnk : (answerFrame f s).state.lnk = s.lnk := (answerFrame_answers f s).frame.same .lnk (by decide)
  rw [dispatch, summary_lnk_free, hlnk]
  rfl

/-- A refused frame changes the link interface alone, and its reply has no payload (R162). -/
theorem dispatch_refused {f : Frame} {s : State} (h : 2 ≤ resultCode (answerFrame f s).result) :
    (answerFrame f s).payload = [] ∧ dispatch f s = { s with lnk := (dispatch f s).lnk, free := s.free + 1 } := by
  have hrefused := (answerFrame_answers f s).refusal h
  constructor
  · rw [hrefused]; rfl
  · rw [dispatch, hrefused]; rfl

/-- The meaning of the command of a request: its frame arrives (log 6). -/
theorem exec_commandOf (r : Request) (ctr : Byte) (p : List Byte) (s : State) :
    exec (commandOf r ctr p) s = receiveRequest r ctr p s := by
  cases r <;> rfl

/-- The answer that a request gets whose frame is taken into work. -/
def answerInWork (r : Request) (ctr : Byte) (p : List Byte) (s : State) : Answer :=
  answerFrame ⟨ctr, kindOf r, p⟩ (s.inWork ⟨ctr, kindOf r, p⟩)

/-- On a free link every request is replied to, with the result and the payload of its owner (R161). -/
theorem takeIntoWork_reply (r : Request) (ctr : Byte) (p : List Byte) (s : State) :
    Replied r ctr p (answerInWork r ctr p s).result (answerInWork r ctr p s).payload s
      (takeIntoWork ⟨ctr, kindOf r, p⟩ s) :=
  ⟨dispatch_free .., dispatch_lnk ..⟩

/-- On a free link a refused request changes nothing but the link interface (R162). -/
theorem takeIntoWork_refused {r : Request} {ctr : Byte} {p : List Byte} {s : State}
    (h : 2 ≤ resultCode (answerInWork r ctr p s).result) :
    Refused r ctr p (answerInWork r ctr p s).result s (takeIntoWork ⟨ctr, kindOf r, p⟩ s) := by
  obtain ⟨hpayload, hstate⟩ := dispatch_refused h
  have hreply := takeIntoWork_reply r ctr p s
  rw [show (answerInWork r ctr p s).payload = [] from hpayload] at hreply
  refine ⟨hreply, ?_⟩
  rw [takeIntoWork_eq, dispatch_free]
  exact hstate

/-! ### The result of a firing (R133) -/

/-- The last that a firing does is its notice, with the result of the action as detail. -/
theorem fireEntry_ntq (e : Entry) (s : State) :
    ∃ (q : Ntq) (res : Result), (fireEntry e s).ntq = q.post s.tmr.seconds .timerFired (resultCode res) e.id := by
  let r := performAction e.action { s with tmr := s.tmr.fired e }
  have hseconds : r.2.tmr.seconds = s.tmr.seconds := by
    rw [(performAction_frame ..).same .tmr (by decide)]
    exact Timer.fired_seconds ..
  exact ⟨r.2.ntq, r.1, by rw [← hseconds]; rfl⟩

/-- Outside reset the first entry that is due fires (R133). -/
theorem exec_timerEntryFire {s : State} {e : Entry} (h : Awake s) (he : s.tmr.nextFiring = some e) :
    exec .timerEntryFire s = .next (fireEntry e s) := by
  have hlive : exec .timerEntryFire s = execTimerEntryFire s := rfl
  rw [hlive, execTimerEntryFire, live_awake h, he]

/-- Settles O55: each owner's answer is an acceptance or a bare refusal (`serve_answers`), and the dispatch adds the reply. -/
theorem refusedRequestsChangeNothing : Obligations.RefusedRequestsChangeNothing := by
  refine ⟨fun r ctr p s h => ?_, fun f s => ?_, fun s e h he => ?_⟩
  · exact ⟨_, _, _, (exec_commandOf r ctr p s).trans (receiveRequest_free h r ctr p), takeIntoWork_reply r ctr p s,
      resultCode_le _, takeIntoWork_refused⟩
  · exact ⟨_, _, resultCode_le _, dispatch_lnk f s, dispatch_refused⟩
  · obtain ⟨q, res, hntq⟩ := fireEntry_ntq e s
    exact ⟨_, q, res, exec_timerEntryFire h he, hntq⟩

end Sys2Proof.Machine
end
